-- ==== Sys2Proof/Word.lean ====
section
/-! DEFINITION. The word types of the WB-128: bytes, hardware addresses, IPv4 addresses, and the bounded
identifiers the manual numbers (00_scope.md, "Ranges of identifiers"). -/

namespace Sys2Proof

/-- One byte of a frame or of block memory. -/
abbrev Byte := BitVec 8

/-- A 48-bit hardware address; the first byte sent is the most significant one (00_scope.md, "Byte order"). -/
abbrev MacAddr := BitVec 48

/-- An IPv4 address; where the manual makes one optional, 0.0.0.0 is its absence (00_scope.md, "Optional fields"). -/
abbrev Ipv4 := BitVec 32

/-- A desk id, 0 to 127 (R1). -/
abbrev DeskId := Fin 128

/-- A branch circuit, 0 to 7 (R21). -/
abbrev CircuitId := Fin 8

/-- A slot of the Block Ring, 0 to 63; adding one wraps from 63 to 0 (R59). -/
abbrev SlotId := Fin 64

end Sys2Proof
end

