-- ==== Sys2Proof/Syntax.lean ====
section
/-! DEFINITION. The commands of the WB-128: one constructor of `Instr` for each row of spec/opcode_table.json, with the
operands the manual gives the request, frame or event (10_frame_formats.md, "The common header"). -/

namespace Sys2Proof

/-- The two Ethernet ports (00_scope.md, "Pin summary"). -/
inductive Port where
  | upstream
  | room
  deriving DecidableEq, Repr

/-- A frame of type 0x8F37 that is taken out of the flow (R137), less the fields its command fixes: the frame type, the
kind (fixed by the constructor) and, of the destination, which of the two accepted addresses it is. `rest` is every byte of
the frame after the 20-byte common header, padding included; `bodyLen` is the header's body length field. -/
structure ProtocolFrame where
  /-- whether the destination is the broadcast address; otherwise it is the part's station address (R137) -/
  broadcast : Bool
  /-- bytes 6-11 -/
  src : MacAddr
  /-- byte 14 -/
  version : Byte
  /-- bytes 16-17 -/
  tag : BitVec 16
  /-- bytes 18-19 -/
  bodyLen : Nat
  /-- byte 20 onward, as the frame arrived -/
  rest : List Byte
  deriving DecidableEq, Repr

/-- The commands. The first 27 are the management requests, each a request frame of that kind arriving at the Upstream port;
`join` and `report` are desk protocol frames arriving at the Room port; `bootDiscovery` is an arriving frame that the Match
Table classifies BOOT; `frameArrival` is any frame reaching a port, whole; the others are events at a timer, a link, an egress
or the reset input. Assumption log 3 says how the frame commands and `frameArrival` go together. -/
inductive Instr where
  | identify (r : ProtocolFrame)
  | deskWrite (r : ProtocolFrame)
  | deskRead (r : ProtocolFrame)
  | circuitWrite (r : ProtocolFrame)
  | circuitRead (r : ProtocolFrame)
  | matchWrite (r : ProtocolFrame)
  | matchRead (r : ProtocolFrame)
  | matchLive (r : ProtocolFrame)
  | slotmapWrite (r : ProtocolFrame)
  | slotmapRead (r : ProtocolFrame)
  | stationWrite (r : ProtocolFrame)
  | runStart (r : ProtocolFrame)
  | runPause (r : ProtocolFrame)
  | runResume (r : ProtocolFrame)
  | runStop (r : ProtocolFrame)
  | enqueue (r : ProtocolFrame)
  | reportRelease (r : ProtocolFrame)
  | blockOpen (r : ProtocolFrame)
  | blockMore (r : ProtocolFrame)
  | ringFlush (r : ProtocolFrame)
  | wantedRead (r : ProtocolFrame)
  | wantedTake (r : ProtocolFrame)
  | statusRead (r : ProtocolFrame)
  | countersRead (r : ProtocolFrame)
  | eventsClear (r : ProtocolFrame)
  | engineReset (r : ProtocolFrame)
  | fullReset (r : ProtocolFrame)
  | powerOn
  | linkDown (p : Port)
  | linkUp (p : Port)
  /-- a frame reaching a port's MAC: whether its frame check sequence is right, and its bytes without that sequence (R135) -/
  | frameArrival (p : Port) (fcsGood : Bool) (frame : List Byte)
  | bootDiscovery (p : Port) (frame : List Byte)
  | join (r : ProtocolFrame)
  | report (r : ProtocolFrame)
  | wakeTimeoutExpiry (d : DeskId)
  | discoveryTimeoutExpiry (d : DeskId)
  | joinTimeoutExpiry (d : DeskId)
  | silenceTimeoutExpiry (d : DeskId)
  | decayStep (c : CircuitId)
  | gapExpiry (c : CircuitId)
  | windowEnd
  | roomFrameOpportunity
  | upstreamFrameOpportunity
  | frameSent (p : Port)
  deriving DecidableEq, Repr

end Sys2Proof
end

