-- ==== Sys2Proof/Decode.lean ====
section
/-! DEFINITION. The command that a word of the table spells. spec/opcode_table.json gives no row any bits (each row's "fields" is
empty): a command reaches the part as a frame or an event, not as a word, so no word spells one. -/

namespace Sys2Proof

/-- The command a word spells by the table's bits: none, since no row has bits (assumption log 13). -/
def decodeTableWord (_nbits _w : Nat) : Option Instr := none

end Sys2Proof
end

