-- ==== Sys2Proof/Machine/Bytes.lean ====
section
/-! DEFINITION. Byte-order helpers: reading and writing multi-byte fields most significant byte first
(00_scope.md, "Byte order and numbering"), hardware address classes, the ones' complement sum (R44, R55) and CRC-32 (R65). -/

namespace Sys2Proof.Machine

/-- Byte i of a frame or body; 0 beyond its end (every reader checks the length first). -/
def byteAt (l : List Byte) (i : Nat) : Byte := l.getD i 0

/-- The n-byte number at position i, most significant byte first. -/
def beNat (l : List Byte) (i : Nat) : Nat → Nat
  | 0 => 0
  | n + 1 => beNat l i n * 256 + (byteAt l (i + n)).toNat

/-- A number as n bytes, most significant first. -/
def beBytes : Nat → Nat → List Byte
  | 0, _ => []
  | n + 1, v => BitVec.ofNat 8 (v / 256 ^ n) :: beBytes n v

/-- The hardware address at position i. -/
def macAt (l : List Byte) (i : Nat) : MacAddr := BitVec.ofNat 48 (beNat l i 6)

/-- The IPv4 address at position i. -/
def ipAt (l : List Byte) (i : Nat) : Ipv4 := BitVec.ofNat 32 (beNat l i 4)

/-- A hardware address as six bytes. -/
def macBytes (a : MacAddr) : List Byte := beBytes 6 a.toNat

/-- An IPv4 address as four bytes. -/
def ipBytes (a : Ipv4) : List Byte := beBytes 4 a.toNat

/-- "No or yes" as one byte (10_frame_formats.md). -/
def boolByte (b : Bool) : List Byte := [if b then 1 else 0]

/-- An optional field of a response: a presence byte, then the value bytes, zeros when absent (10_frame_formats.md). -/
def optBytes (n : Nat) : Option Nat → List Byte
  | none => 0 :: List.replicate n 0
  | some v => 1 :: beBytes n v

/-- Zero bytes after l up to n bytes. -/
def padTo (n : Nat) (l : List Byte) : List Byte := l ++ List.replicate (n - l.length) 0

/-- A group address, multicast or broadcast: its first byte has its least significant bit set (00_scope.md). -/
def isGroup (a : MacAddr) : Bool := a.getLsbD 40

/-- The broadcast address (00_scope.md). -/
def broadcastAddr : MacAddr := BitVec.allOnes 48

/-- The sum of the 16-bit words of l (an odd last byte is the high byte of a word). -/
def wordSum : List Byte → Nat
  | [] => 0
  | [a] => a.toNat * 256
  | a :: b :: t => a.toNat * 256 + b.toNat + wordSum t

/-- R55: each carry out of the sixteenth bit is added back; three foldings suffice for any header. -/
def carryAround (n : Nat) : Nat :=
  let once := fun m : Nat => m % 65536 + m / 65536
  once (once (once n))

/-- R44, R55: the ones' complement sum of the 16-bit words of l. -/
def onesSum (l : List Byte) : Nat := carryAround (wordSum l)

/-- One shift of the reflected CRC-32 (R65: the reversed constant 0xEDB88320). -/
def crcShift (c : BitVec 32) : BitVec 32 := if c.getLsbD 0 then (c >>> 1) ^^^ 0xEDB88320#32 else c >>> 1

/-- One byte of the CRC-32: eight shifts, least significant bit first. -/
def crcByte (c : BitVec 32) (b : Byte) : BitVec 32 :=
  crcShift (crcShift (crcShift (crcShift (crcShift (crcShift (crcShift (crcShift (c ^^^ b.setWidth 32))))))))

/-- R65: the CRC-32 of a block, initial value all ones, final inversion. -/
def crc32 (l : List Byte) : BitVec 32 := ~~~ (l.foldl crcByte (BitVec.allOnes 32))

end Sys2Proof.Machine
end

