-- ==== Sys2Proof/Config.lean ====
section
/-! DEFINITION. What is fixed at manufacture or by the manual's capacities: the identity record's constants (R154)
and the bounds of the part's collections. Nothing here is left open by the manual but the factory's station address,
whose value is a field of State; `Config.factoryStation` is only what State.reset puts there (assumption log 1). -/

namespace Sys2Proof

/-- R154: vendor code of the identity record. -/
def Config.vendorCode : Nat := 0x55E3

/-- R154: part code of the identity record. -/
def Config.partCode : Nat := 0x0128

/-- R154: the revision, the character "A". -/
def Config.revision : Nat := 0x41

/-- R1: desk records. -/
def Config.deskRecords : Nat := 128

/-- R59: slots of the Block Ring. -/
def Config.ringSlots : Nat := 64

/-- R62: bytes of block memory in a slot. -/
def Config.slotBytes : Nat := 8192

/-- R64: data bytes of a full fragment. -/
def Config.fragmentBytes : Nat := 1024

/-- R139: entries of the Match Table. -/
def Config.matchEntries : Nat := 32

/-- R21: circuit records. -/
def Config.circuits : Nat := 8

/-- R113: ranges the Wanted List can hold. -/
def Config.wantedRanges : Nat := 32

/-- R89: entries the Repair Queue can hold. -/
def Config.repairEntries : Nat := 16

/-- R144: frames the Control Queue can hold. -/
def Config.controlFrames : Nat := 16

/-- R147: frames the Upstream Reply Queue can hold. -/
def Config.replyFrames : Nat := 8

/-- R138: frames a pass-through FIFO can hold. -/
def Config.fifoFrames : Nat := 64

/-- R156: the value every counter holds once it reaches it. -/
def Config.counterLimit : Nat := 4294967295

/-- R81: the last stream position; the counter does not wrap past it. -/
def Config.lastPosition : Nat := 4294967295

/-- R3: the value at which a lag count saturates. -/
def Config.lagLimitCount : Nat := 255

/-- 00_scope.md, "The vendor frame type". -/
def Config.vendorFrameType : Nat := 0x8F37

/-- DESIGN CHOICE (assumption log 1): the manual says the station address is "set at the factory" and gives no value.
This locally administered unicast address is only what State.reset holds; no statement rests on it. -/
def Config.factoryStation : MacAddr := 0x0255E3012800#48

end Sys2Proof
end

