-- ==== Sys2Proof/Machine/State.lean ====
section
/-! DEFINITION. The state of the WB-128 as plain data, block by block, and its value after reset. What the manual says two
structures hold in common is held once and read from there: the Address Index from the desk records (R4), a slot's
repair-queued field from the Repair Queue (R89), the occupancy from the slots (R59), the open-block header from the FILLING slot
(R66), a circuit's gap running from its gap timer (R28), STARVED from the ring (R79); assumption log 16. -/

namespace Sys2Proof.Machine

/-! ## The Desk Table -/

/-- Desk states (01_the_desk_table.md, "Desk states"), in the order of their codes. -/
inductive DeskState where
  | idle | queued | waking | awake | offered | joined | complete | failed
  deriving DecidableEq, Repr

/-- Fail causes (01_the_desk_table.md), in the order of their codes. -/
inductive FailCause where
  | noWake | overBudget | noDiscovery | noJoin | silent | restarts | imageBad | runEnded
  deriving DecidableEq, Repr

/-- The image status a desk reports (R2's table of night fields). -/
inductive ImageStatus where
  | none | good | bad
  deriving DecidableEq, Repr

/-- A desk's deadline timer: a deadline on the timebase in ACTIVE, a held remaining time in PAUSED (R11, R12). -/
inductive DeskTimer where
  | running (deadline : Nat)
  | held (remaining : Nat)
  deriving DecidableEq, Repr

/-- The five configuration fields (R2). -/
structure DeskConfig where
  /-- zero marks the record as unused (R1) -/
  address : MacAddr
  circuit : CircuitId
  /-- 1 to 255 surge units -/
  weight : Nat
  /-- 0.0.0.0 is absent (R7) -/
  lease : Ipv4
  enrolled : Bool
  deriving DecidableEq, Repr

/-- The night fields (R3). -/
structure Night where
  state : DeskState
  failCause : Option FailCause
  wakeAttempts : Nat
  polls : Nat
  restarts : Nat
  lagCount : Nat
  joinedPos : Option Nat
  lastAck : Option Nat
  missing : Option Nat
  image : ImageStatus
  timer : Option DeskTimer
  /-- ms since RUN START (R18) -/
  completion : Option Nat
  deriving DecidableEq, Repr

/-- R3: the IDLE values of the night fields. -/
def Night.idle : Night where
  state := .idle
  failCause := none
  wakeAttempts := 0
  polls := 0
  restarts := 0
  lagCount := 0
  joinedPos := none
  lastAck := none
  missing := none
  image := .none
  timer := none
  completion := none

/-- R2: the configuration values after power-on and FULL RESET. -/
def DeskConfig.initial : DeskConfig where
  address := 0
  circuit := 0
  weight := 1
  lease := 0
  enrolled := false

/-- One desk record (R1). -/
structure Desk where
  config : DeskConfig
  night : Night
  deriving DecidableEq, Repr

/-- R20: a record after power-on and FULL RESET. -/
def Desk.initial : Desk := ⟨DeskConfig.initial, Night.idle⟩

/-! ## Circuits -/

/-- One circuit record (R21) with its two timers, each held as its expiry on the timebase when present (R27, R28). -/
structure Circuit where
  budget : Nat
  decay : Nat
  gap : Nat
  load : Nat
  /-- present while gap running is yes -/
  gapTimer : Option Nat
  /-- absent while stopped -/
  decayTimer : Option Nat
  deriving DecidableEq, Repr

/-- R42: a circuit record after power-on and FULL RESET. -/
def Circuit.initial : Circuit := ⟨0, 0, 0, 0, none, none⟩

/-! ## The Block Ring -/

/-- The fields BLOCK OPEN gives a block (R60); while the block is FILLING this is also the open-block header (R66). -/
structure BlockHeader where
  sequence : Nat
  pass : Nat
  length : Nat
  check : BitVec 32
  notify : Bool
  deriving DecidableEq, Repr

/-- One slot of the ring with its record; a field is present exactly in the states that carry it (R60). -/
inductive Slot where
  | empty
  /-- with the fragment map: whether each fragment index has been received -/
  | filling (h : BlockHeader) (map : Vector Bool 8)
  | ready (h : BlockHeader)
  /-- with the stream position, the first-send time and the pending set in ascending order of desk id -/
  | sent (h : BlockHeader) (position firstSend : Nat) (waiting : List DeskId)
  deriving DecidableEq, Repr

/-- Block memory of one slot: the bytes written, by ascending address within the slot's 8192 bytes, less those equal to what
an unlisted address reads as. -/
abbrev Memory := List Host.Cell

/-! ## The Stream Engine -/

/-- The kind of a transmission (R82). -/
inductive TxKind where
  | first | repair
  deriving DecidableEq, Repr

/-- The record of the transmission in progress (R82). -/
structure Transmission where
  slot : SlotId
  kind : TxKind
  /-- the next fragment to hand to the egress -/
  next : Nat
  cut : Bool
  deriving DecidableEq, Repr

/-! ## The Wanted List -/

/-- A range of the Wanted List (R113). -/
structure Range where
  first : Nat
  count : Nat
  deriving DecidableEq, Repr

/-! ## Run Control -/

/-- After actions (R110), in the order of their codes. -/
inductive AfterAction where
  | reboot | powerOff | stay
  deriving DecidableEq, Repr

/-- Close causes (R129), in the order of their codes. -/
inductive CloseCause where
  | stopped | windowEnd | allDone
  deriving DecidableEq, Repr

/-- A set of the seven event kinds; bit k stands for the kind of code k (10_frame_formats.md, "An event set"). -/
abbrev EventSet := BitVec 7

/-- The run parameter record (07_the_night_run.md, "The run parameter record"). -/
structure RunParams where
  runTag : BitVec 16
  blockCount : Nat
  imageCheck : BitVec 32
  streamGroup : MacAddr
  bootServer : Ipv4
  leaseTime : Nat
  subnetMask : Ipv4
  /-- 0.0.0.0 is absent -/
  router : Ipv4
  loaderName : List Byte
  marker : List Byte
  afterAction : AfterAction
  noticeEnable : EventSet
  window : Nat
  wakeTimeout : Nat
  discoveryTimeout : Nat
  joinTimeout : Nat
  silenceTimeout : Nat
  reportInterval : Nat
  wakeAttemptLimit : Nat
  pollLimit : Nat
  restartLimit : Nat
  repairBurst : Nat
  lagLimit : Nat
  decayInterval : Nat
  lowWater : Nat
  deriving DecidableEq, Repr

/-- What Run Control holds from RUN START until the run is released or reset (R119, R122, R123). -/
structure RunInfo where
  params : RunParams
  owner : MacAddr
  start : Nat
  deriving DecidableEq, Repr

/-- The run state with what is present in it (07_the_night_run.md, "Run states"): `running false` is ACTIVE and
`running true` is PAUSED, each with the window deadline; CLOSED holds the close cause and the window time left at the close. -/
inductive Run where
  | standby
  | running (paused : Bool) (info : RunInfo) (windowDeadline : Nat)
  | closed (info : RunInfo) (cause : CloseCause) (windowLeft : Nat)
  deriving DecidableEq, Repr

/-! ## The Frame Path -/

/-- Which arrival port's frames a match entry tests (R139), in the order of their codes. -/
inductive MatchPort where
  | room | upstream | either
  deriving DecidableEq, Repr

/-- What a match entry decides (R140), in the order of their codes. -/
inductive MatchAction where
  | pass | drop | boot
  deriving DecidableEq, Repr

/-- One match entry (R139). -/
structure MatchEntry where
  port : MatchPort
  offset : Nat
  key : Vector Byte 8
  mask : Vector Byte 8
  nightOnly : Bool
  action : MatchAction
  hits : Nat
  deriving DecidableEq, Repr

/-- R143: a reset entry. -/
def MatchEntry.initial : MatchEntry where
  port := .either
  offset := 0
  key := Vector.replicate 8 0
  mask := Vector.replicate 8 0
  nightOnly := false
  action := .pass
  hits := 0

/-- The sources of the Room egress (R145), in the order of their codes. -/
inductive Source where
  | pass | stream | control
  deriving DecidableEq, Repr

/-- R146: the default map: CONTROL at 0 and 8, STREAM at odd entries, PASS at the other even ones. -/
def Source.defaultMap : Vector Source 16 :=
  #v[.control, .stream, .pass, .stream, .pass, .stream, .pass, .stream,
     .control, .stream, .pass, .stream, .pass, .stream, .pass, .stream]

/-- The sources of the Upstream egress (R147). -/
inductive UpSource where
  | reply | fifo
  deriving DecidableEq, Repr

/-- Why a JOIN is refused (R98), in the order of their codes. -/
inductive RefuseReason where
  | notRunning | unknown | notReady
  deriving DecidableEq, Repr

/-- The values a boot reply carries that are read when it is built (R53, R54). -/
structure BootReply where
  /-- yes for an acknowledgement, no for an offer -/
  acknowledge : Bool
  client : MacAddr
  lease : Ipv4
  server : Ipv4
  leaseTime : Nat
  subnetMask : Ipv4
  router : Ipv4
  loaderName : List Byte
  transaction : BitVec 32
  bootFlags : BitVec 16
  clientAddress : BitVec 32
  deriving DecidableEq, Repr

/-- A frame of the Control Queue, with every value it was built from (R144); `bytes` in Machine/Formats.lean is its layout
(DESIGN CHOICE, assumption log 11). -/
inductive ControlFrame where
  | wake (runTag : BitVec 16) (target : MacAddr)
  | bootReply (b : BootReply)
  | joinAccept (desk : MacAddr) (runTag : BitVec 16) (loaderVersion : BitVec 16) (blockCount : Nat) (imageCheck : BitVec 32)
      (streamGroup : MacAddr) (reportInterval : Nat) (joinedPos : Nat)
  | joinRefuse (desk : MacAddr) (reason : RefuseReason) (loaderVersion : BitVec 16) (runTag : BitVec 16)
  | poll (desk : MacAddr) (runTag : BitVec 16) (number : Nat)
  | finish (desk : MacAddr) (runTag : BitVec 16) (imageFailed : Bool) (action : AfterAction)
  deriving DecidableEq, Repr

/-- Status codes (R153), in the order of their codes. -/
inductive Status where
  | ok | clamped | wrongState | deskBusy | duplicateAddress | badIndex | liveEntry | ringFull | badCheck | badLength
  | stalePass | noOpenBlock | reportHeld | noDesks | unknownKind | badFormat
  deriving DecidableEq, Repr

/-- Event kinds (R158), in the order of their codes. -/
inductive EventKind where
  | deskDone | deskFailed | ringSpace | ringDrained | blockSent | passBegin | runClosed
  deriving DecidableEq, Repr

/-- A frame of the Upstream Reply Queue (R147): a response with its body after the status (R153), or a notice with its
4-byte datum (R160). -/
inductive ReplyFrame where
  | response (dest : MacAddr) (kind : Nat) (tag : BitVec 16) (status : Status) (body : List Byte)
  | notice (dest : MacAddr) (runTag : BitVec 16) (kind : EventKind) (datum : List Byte)
  deriving DecidableEq, Repr

/-! ## Counters -/

/-- The 22 counters (R156), in the order COUNTERS READ returns them. -/
inductive Counter where
  | upstreamIn | upstreamOut | upstreamDropped
  | roomIn | roomOut | roomDropped
  | toRoomOverflow | toUpstreamOverflow
  | controlDrops | managementDrops
  | bootReplies | bootPassBacks
  | blocksCompleted | checkFailures | discards | duplicateFragments
  | firstTransmissions | repairs | repairOverflows
  | reportsTaken | reportsIgnored | naksIgnored
  deriving DecidableEq, Repr

/-! ## Reasons to stop -/

/-- A fault: nothing in the manual stops the part, so no command's meaning faults and the type has no constructor
(assumption log 17). -/
inductive Fault where
  deriving DecidableEq, Repr

/-- A refusal. -/
inductive Refusal where
  /-- Raised only by an arm of `exec` for a row that has no meaning yet; there is none (safe). -/
  | notModelled (mnemonic : String)
  deriving DecidableEq, Repr

/-! ## The whole state -/

/-- The state of the part. -/
structure State where
  /-- the 1 ms timebase (00_scope.md, "Time") -/
  now : Nat
  /-- the part's own hardware address, set at the factory (R154) -/
  station : MacAddr
  /-- the Desk Table (R1) -/
  desks : Vector Desk 128
  /-- the Circuit Table (R21) -/
  circuits : Vector Circuit 8
  /-- the Wake Queue, oldest first (R29) -/
  wakeQueue : List DeskId
  /-- the slots of the Block Ring (R59) -/
  slots : Vector Slot 64
  /-- block memory, by slot (R60) -/
  blockMem : Vector Memory 64
  /-- the oldest held slot (R59) -/
  tail : SlotId
  /-- the next slot to be sent for the first time (R59) -/
  current : SlotId
  /-- the slot being filled or next to be filled (R59) -/
  fill : SlotId
  /-- the ring's current pass (R61) -/
  currentPass : Nat
  /-- the stream position counter (R80) -/
  position : Nat
  /-- the position exhausted condition (R81) -/
  exhausted : Bool
  /-- the Repair Queue, oldest request first (R89) -/
  repairQueue : List SlotId
  /-- the transmission in progress (R82) -/
  transmission : Option Transmission
  /-- the consecutive-repair count (R87) -/
  repairCount : Nat
  /-- the Wanted List (R113) -/
  wanted : List Range
  /-- run state, parameter record, owner, start time, window deadline, close cause, window time left (R118) -/
  run : Run
  /-- whether the Upstream port's link is up (R134) -/
  upstreamLink : Bool
  /-- whether the Room port's link is up (R134) -/
  roomLink : Bool
  /-- the upstream-to-room FIFO, oldest first (R138) -/
  toRoom : List (List Byte)
  /-- the room-to-upstream FIFO, oldest first (R138) -/
  toUpstream : List (List Byte)
  /-- the Match Table (R139) -/
  matchTable : Vector MatchEntry 32
  /-- the live count (R142) -/
  liveCount : Nat
  /-- the Control Queue, oldest first (R144) -/
  controlQueue : List ControlFrame
  /-- the Room Egress Slot Map (R146) -/
  slotMap : Vector Source 16
  /-- the egress position (R145) -/
  egressPos : Fin 16
  /-- the Upstream Reply Queue, oldest first (R147) -/
  replyQueue : List ReplyFrame
  /-- the Upstream egress's record of the source served last (R147) -/
  lastServed : UpSource
  /-- the frame the Upstream port's MAC is sending (R147) -/
  upstreamSending : Option (List Byte)
  /-- the frame the Room port's MAC is sending (R145) -/
  roomSending : Option (List Byte)
  /-- the Station List (R150) -/
  stations : List MacAddr
  /-- the seven event flags (R158) -/
  flags : EventSet
  /-- the notice enable set (R160) -/
  noticeEnable : EventSet
  /-- the counters (R156), in the order of `Counter` -/
  counters : Vector Nat 22
  /-- the commands waiting, first in first out; the model's own (assumption log 13) -/
  pending : List Instr
  deriving DecidableEq, Repr

/-- The machine after power-on: each chapter's power-on values (R2, R20, R42, R61, R96, R117, R118, R134, R143, R146, R147, R148,
R150, R156, R158, R160). The timebase starts at 0 and the station address is `Config.factoryStation` (assumption logs 1, 2). -/
def State.reset : State where
  now := 0
  station := Config.factoryStation
  desks := Vector.replicate 128 Desk.initial
  circuits := Vector.replicate 8 Circuit.initial
  wakeQueue := []
  slots := Vector.replicate 64 .empty
  blockMem := Vector.replicate 64 []
  tail := 0
  current := 0
  fill := 0
  currentPass := 0
  position := 0
  exhausted := false
  repairQueue := []
  transmission := none
  repairCount := 0
  wanted := []
  run := .standby
  upstreamLink := false
  roomLink := false
  toRoom := []
  toUpstream := []
  matchTable := Vector.replicate 32 MatchEntry.initial
  liveCount := 0
  controlQueue := []
  slotMap := Source.defaultMap
  egressPos := 0
  replyQueue := []
  lastServed := .fifo
  upstreamSending := none
  roomSending := none
  stations := []
  flags := 0
  noticeEnable := 0
  counters := Vector.replicate 22 0
  pending := []

end Sys2Proof.Machine
end

