-- ==== Sys2Proof/Machine/Formats.lean ====
section
/-! DEFINITION. Frame Formats (10_frame_formats.md): the codes of named values, the common header, the layouts of the frames
the part builds (R163), the bodies of its responses, and the boot reply (R53 to R55). -/

namespace Sys2Proof.Machine

/-! ## Codes of named values -/

def DeskState.code : DeskState → Nat
  | .idle => 0 | .queued => 1 | .waking => 2 | .awake => 3 | .offered => 4 | .joined => 5 | .complete => 6 | .failed => 7

def FailCause.code : FailCause → Nat
  | .noWake => 0 | .overBudget => 1 | .noDiscovery => 2 | .noJoin => 3 | .silent => 4 | .restarts => 5 | .imageBad => 6
  | .runEnded => 7

def ImageStatus.code : ImageStatus → Nat
  | .none => 0 | .good => 1 | .bad => 2

def ImageStatus.ofCode? : Nat → Option ImageStatus
  | 0 => some .none | 1 => some .good | 2 => some .bad | _ => Option.none

def AfterAction.code : AfterAction → Nat
  | .reboot => 0 | .powerOff => 1 | .stay => 2

def AfterAction.ofCode? : Nat → Option AfterAction
  | 0 => some .reboot | 1 => some .powerOff | 2 => some .stay | _ => none

def CloseCause.code : CloseCause → Nat
  | .stopped => 0 | .windowEnd => 1 | .allDone => 2

def RefuseReason.code : RefuseReason → Nat
  | .notRunning => 0 | .unknown => 1 | .notReady => 2

def EventKind.code : EventKind → Nat
  | .deskDone => 0 | .deskFailed => 1 | .ringSpace => 2 | .ringDrained => 3 | .blockSent => 4 | .passBegin => 5
  | .runClosed => 6

def Status.code : Status → Nat
  | .ok => 0 | .clamped => 1 | .wrongState => 2 | .deskBusy => 3 | .duplicateAddress => 4 | .badIndex => 5 | .liveEntry => 6
  | .ringFull => 7 | .badCheck => 8 | .badLength => 9 | .stalePass => 10 | .noOpenBlock => 11 | .reportHeld => 12
  | .noDesks => 13 | .unknownKind => 14 | .badFormat => 15

def MatchPort.code : MatchPort → Nat
  | .room => 0 | .upstream => 1 | .either => 2

def MatchPort.ofCode? : Nat → Option MatchPort
  | 0 => some .room | 1 => some .upstream | 2 => some .either | _ => none

def MatchAction.code : MatchAction → Nat
  | .pass => 0 | .drop => 1 | .boot => 2

def MatchAction.ofCode? : Nat → Option MatchAction
  | 0 => some .pass | 1 => some .drop | 2 => some .boot | _ => none

def Source.code : Source → Nat
  | .pass => 0 | .stream => 1 | .control => 2

def Source.ofCode? : Nat → Option Source
  | 0 => some .pass | 1 => some .stream | 2 => some .control | _ => none

/-- "No or yes": 0 and 1, and no other value. -/
def boolOfCode? : Nat → Option Bool
  | 0 => some false | 1 => some true | _ => none

/-- The run state's code: STANDBY, ACTIVE, PAUSED, CLOSED. -/
def Run.code : Run → Nat
  | .standby => 0 | .running false _ _ => 1 | .running true _ _ => 2 | .closed _ _ _ => 3

/-- Kind codes of the frames that are not management requests (10_frame_formats.md, the kind table). -/
def Kind.wake : Nat := 0x40
def Kind.join : Nat := 0x41
def Kind.joinAccept : Nat := 0x42
def Kind.joinRefuse : Nat := 0x43
def Kind.report : Nat := 0x44
def Kind.poll : Nat := 0x45
def Kind.finish : Nat := 0x46
def Kind.streamData : Nat := 0x47
def Kind.notice : Nat := 0x50

/-! ## Frames the part builds under type 0x8F37 -/

/-- R163: the common header with version 1 and a body length equal to the body, then the body, then zero bytes up to 60 bytes. -/
def vendorFrame (dest src : MacAddr) (kind : Nat) (tag : BitVec 16) (body : List Byte) : List Byte :=
  padTo 60 (macBytes dest ++ macBytes src ++ beBytes 2 Config.vendorFrameType ++ [1, BitVec.ofNat 8 kind]
    ++ beBytes 2 tag.toNat ++ beBytes 2 body.length ++ body)

/-- R34: six bytes of 0xFF, then the target's address sixteen times. -/
def wakePattern (target : MacAddr) : List Byte :=
  List.replicate 6 0xFF ++ (List.replicate 16 (macBytes target)).flatten

/-- R86: the body of a STREAM DATA frame for fragment i of a block. -/
def streamBody (runTag : BitVec 16) (position : Nat) (h : BlockHeader) (i k : Nat) (isRepair : Bool) (data : List Byte) : List Byte :=
  beBytes 2 runTag.toNat ++ beBytes 4 position ++ beBytes 3 h.sequence ++ beBytes 1 h.pass ++ beBytes 2 h.length
    ++ beBytes 4 h.check.toNat ++ beBytes 1 i ++ beBytes 1 k ++ boolByte isRepair ++ data

/-! ## The boot reply -/

/-- The boot option marker (R44, R54). -/
def optionMarker : List Byte := [0x63, 0x82, 0x53, 0x63]

/-- R54: the options in order: 53 message type, 54 server identifier, 51 lease time, 1 subnet mask, 3 router when present, 255. -/
def bootOptions (b : BootReply) : List Byte :=
  [53, 1, if b.acknowledge then 5 else 2] ++ [54, 4] ++ ipBytes b.server ++ [51, 4] ++ beBytes 4 b.leaseTime
    ++ [1, 4] ++ ipBytes b.subnetMask ++ (if b.router = 0 then [] else [3, 4] ++ ipBytes b.router) ++ [255]

/-- R54, R55: the boot message, filled with zero bytes to 300 bytes. -/
def bootMessage (b : BootReply) : List Byte :=
  padTo 300 ([2, 1, 6, 0] ++ beBytes 4 b.transaction.toNat ++ [0, 0] ++ beBytes 2 b.bootFlags.toNat
    ++ beBytes 4 b.clientAddress.toNat ++ ipBytes b.lease ++ ipBytes b.server ++ [0, 0, 0, 0]
    ++ macBytes b.client ++ List.replicate 10 0 ++ List.replicate 64 0 ++ padTo 128 b.loaderName
    ++ optionMarker ++ bootOptions b)

/-- R53: the broadcast flag is the most significant bit of the flags. -/
def BootReply.destIp (b : BootReply) : Ipv4 := if b.bootFlags.getLsbD 15 then BitVec.allOnes 32 else b.lease

/-- R53, R55: the IPv4 header with the given checksum word. -/
def bootIpHeader (b : BootReply) (checksum : Nat) : List Byte :=
  [0x45, 0] ++ beBytes 2 328 ++ [0, 0, 0, 0] ++ [64, 17] ++ beBytes 2 checksum ++ ipBytes b.server ++ ipBytes b.destIp

/-- R55: the ones' complement of the ones' complement sum of the header's ten words, its checksum word taken as 0. -/
def bootIpChecksum (b : BootReply) : Nat := 65535 - onesSum (bootIpHeader b 0)

/-- R53 to R55: the whole reply frame, 342 bytes before the frame check sequence. -/
def bootReplyBytes (station : MacAddr) (b : BootReply) : List Byte :=
  macBytes b.client ++ macBytes station ++ beBytes 2 0x0800 ++ bootIpHeader b (bootIpChecksum b)
    ++ beBytes 2 67 ++ beBytes 2 68 ++ beBytes 2 308 ++ beBytes 2 0 ++ bootMessage b

/-! ## Control Queue frames -/

/-- The bytes of a Control Queue frame as the MAC sends it, without the frame check sequence (R34, R53, R100, R101, R110, R111). -/
def ControlFrame.bytes (station : MacAddr) : ControlFrame → List Byte
  | .wake runTag target =>
    vendorFrame broadcastAddr station Kind.wake 0 (beBytes 2 runTag.toNat ++ wakePattern target)
  | .bootReply b => bootReplyBytes station b
  | .joinAccept desk runTag loaderVersion blockCount imageCheck streamGroup reportInterval joinedPos =>
    vendorFrame desk station Kind.joinAccept 0 (beBytes 2 runTag.toNat ++ beBytes 2 loaderVersion.toNat ++ beBytes 3 blockCount
      ++ beBytes 4 imageCheck.toNat ++ macBytes streamGroup ++ beBytes 1 reportInterval ++ beBytes 4 joinedPos ++ macBytes station)
  | .joinRefuse desk reason loaderVersion runTag =>
    vendorFrame desk station Kind.joinRefuse 0 (beBytes 1 reason.code ++ beBytes 2 loaderVersion.toNat ++ beBytes 2 runTag.toNat)
  | .poll desk runTag number =>
    vendorFrame desk station Kind.poll 0 (beBytes 2 runTag.toNat ++ beBytes 1 number)
  | .finish desk runTag imageFailed action =>
    vendorFrame desk station Kind.finish 0 (beBytes 2 runTag.toNat ++ boolByte imageFailed ++ beBytes 1 action.code)

/-! ## Upstream Reply Queue frames -/

/-- The bytes of a response or notice as the MAC sends it (R153, R160, R163). -/
def ReplyFrame.bytes (station : MacAddr) : ReplyFrame → List Byte
  | .response dest kind tag status body => vendorFrame dest station kind tag (beBytes 1 status.code ++ body)
  | .notice dest runTag kind datum =>
    vendorFrame dest station Kind.notice 0 (beBytes 2 runTag.toNat ++ beBytes 1 kind.code ++ datum)

/-! ## Response bodies, after the status -/

/-- The five configuration fields, as in DESK WRITE. -/
def DeskConfig.bytes (c : DeskConfig) : List Byte :=
  macBytes c.address ++ beBytes 1 c.circuit.val ++ beBytes 1 c.weight ++ ipBytes c.lease ++ boolByte c.enrolled

/-- R9: what a DESK READ reports of the night fields, at the present time. -/
def DeskTimer.remaining (now : Nat) : DeskTimer → Nat
  | .running deadline => deadline - now
  | .held remaining => remaining

/-- R9: the night fields of a DESK READ response. -/
def Night.bytes (now : Nat) (n : Night) : List Byte :=
  beBytes 1 n.state.code ++ optBytes 1 (n.failCause.map FailCause.code) ++ beBytes 1 n.wakeAttempts ++ beBytes 1 n.polls
    ++ beBytes 1 n.restarts ++ beBytes 1 n.lagCount ++ optBytes 4 n.joinedPos ++ optBytes 4 n.lastAck ++ optBytes 3 n.missing
    ++ beBytes 1 n.image.code ++ optBytes 4 (n.timer.map (DeskTimer.remaining now)) ++ optBytes 4 n.completion

/-- R22, R24: the circuit record. -/
def Circuit.bytes (now : Nat) (c : Circuit) : List Byte :=
  beBytes 2 c.budget ++ beBytes 1 c.decay ++ beBytes 2 c.gap ++ beBytes 2 c.load ++ boolByte c.gapTimer.isSome
    ++ optBytes 2 (c.gapTimer.map (· - now))

/-- R141, R142: the entry fields and the hit count. -/
def MatchEntry.bytes (e : MatchEntry) : List Byte :=
  beBytes 1 e.port.code ++ beBytes 1 e.offset ++ e.key.toList ++ e.mask.toList ++ boolByte e.nightOnly ++ beBytes 1 e.action.code
    ++ beBytes 4 e.hits

/-- R121: the record as taken, in the layout of the request. -/
def RunParams.bytes (p : RunParams) : List Byte :=
  beBytes 2 p.runTag.toNat ++ beBytes 3 p.blockCount ++ beBytes 4 p.imageCheck.toNat ++ macBytes p.streamGroup
    ++ ipBytes p.bootServer ++ beBytes 4 p.leaseTime ++ ipBytes p.subnetMask ++ ipBytes p.router ++ beBytes 1 p.afterAction.code
    ++ beBytes 1 p.noticeEnable.toNat ++ beBytes 2 p.window ++ beBytes 1 p.wakeTimeout ++ beBytes 1 p.discoveryTimeout
    ++ beBytes 1 p.joinTimeout ++ beBytes 1 p.silenceTimeout ++ beBytes 1 p.reportInterval ++ beBytes 1 p.wakeAttemptLimit
    ++ beBytes 1 p.pollLimit ++ beBytes 1 p.restartLimit ++ beBytes 1 p.repairBurst ++ beBytes 2 p.lagLimit
    ++ beBytes 2 p.decayInterval ++ beBytes 1 p.lowWater ++ beBytes 1 p.loaderName.length ++ beBytes 1 p.marker.length
    ++ p.loaderName ++ p.marker

/-- R116: the number of ranges, the blocks they cover, and each range. -/
def wantedBytes (l : List Range) : List Byte :=
  beBytes 1 l.length ++ beBytes 4 (l.map Range.count).sum ++ l.flatMap fun r => beBytes 3 r.first ++ beBytes 3 r.count

/-- R154: the identity record. -/
def identityBytes (station : MacAddr) : List Byte :=
  beBytes 2 Config.vendorCode ++ beBytes 2 Config.partCode ++ beBytes 1 Config.revision ++ macBytes station
    ++ beBytes 2 Config.deskRecords ++ beBytes 2 Config.ringSlots ++ beBytes 2 Config.slotBytes ++ beBytes 2 Config.matchEntries
    ++ beBytes 2 Config.circuits ++ beBytes 2 Config.wantedRanges ++ beBytes 2 Config.repairEntries

end Sys2Proof.Machine
end

