-- ==== Sys2Proof/Machine/Ops.lean ====
section
/-! DEFINITION. The named operations over the state that the blocks share: saturating counters (R156), the two bounded
queues of frames (R144, R147), desk records and the Address Index (R1, R4), deadline timers (R11, R12), block memory, and
pass-through (R138). -/

namespace Sys2Proof.Machine

/-! ## Counters -/

/-- The place of a counter in the order of COUNTERS READ. -/
def Counter.index : Counter → Fin 22
  | .upstreamIn => 0 | .upstreamOut => 1 | .upstreamDropped => 2
  | .roomIn => 3 | .roomOut => 4 | .roomDropped => 5
  | .toRoomOverflow => 6 | .toUpstreamOverflow => 7
  | .controlDrops => 8 | .managementDrops => 9
  | .bootReplies => 10 | .bootPassBacks => 11
  | .blocksCompleted => 12 | .checkFailures => 13 | .discards => 14 | .duplicateFragments => 15
  | .firstTransmissions => 16 | .repairs => 17 | .repairOverflows => 18
  | .reportsTaken => 19 | .reportsIgnored => 20 | .naksIgnored => 21

/-- The value of a counter. -/
def State.counter (s : State) (k : Counter) : Nat := s.counters[k.index]

/-- R156: a counter raised n times holds 4 294 967 295 once it reaches it. -/
def State.countBy (s : State) (k : Counter) (n : Nat) : State :=
  { s with counters := s.counters.set k.index (min (s.counters[k.index] + n) Config.counterLimit) }

/-- R156: a counter raised by one. -/
def State.count (s : State) (k : Counter) : State := s.countBy k 1

/-! ## The run -/

/-- The record, owner and start time, present from RUN START to release or reset (R119, R123). -/
def Run.info? : Run → Option RunInfo
  | .standby => none
  | .running _ info _ => some info
  | .closed info _ _ => some info

/-- The run state is ACTIVE. -/
def Run.active : Run → Bool
  | .running paused _ _ => !paused
  | _ => false

/-- The run state is ACTIVE or PAUSED. -/
def Run.inProgress : Run → Bool
  | .running _ _ _ => true
  | _ => false

/-! ## Queues of frames -/

/-- R144: put a frame at the tail of the Control Queue; with 16 frames held it is dropped and counted. -/
def State.putControl (s : State) (f : ControlFrame) : State :=
  if s.controlQueue.length < Config.controlFrames then { s with controlQueue := s.controlQueue ++ [f] }
  else s.count .controlDrops

/-- R147: put a frame at the tail of the Upstream Reply Queue; with 8 frames held it is dropped and counted. -/
def State.putReply (s : State) (f : ReplyFrame) : State :=
  if s.replyQueue.length < Config.replyFrames then { s with replyQueue := s.replyQueue ++ [f] }
  else s.count .managementDrops

/-- R153: the response to a request: to its source, with its kind and tag, a status and a body. -/
def State.respond (s : State) (r : ProtocolFrame) (kind : Nat) (status : Status) (body : List Byte) : State :=
  s.putReply (.response r.src kind r.tag status body)

/-- R152: the body of a request or desk frame, its body length's worth of bytes after the header. -/
def bodyOf (r : ProtocolFrame) : List Byte := r.rest.take r.bodyLen

/-! ## Desk records -/

/-- Change the night fields of one desk and nothing else. -/
def State.modifyNight (s : State) (d : DeskId) (f : Night → Night) : State :=
  { s with desks := s.desks.set d { s.desks[d] with night := f s.desks[d].night } }

/-- Change the night fields of every desk and nothing else. -/
def State.mapNight (s : State) (f : DeskId → Desk → Night) : State :=
  { s with desks := Vector.ofFn fun d => { s.desks[d] with night := f d s.desks[d] } }

/-- R4: the Address Index: a non-zero address held by a record names its desk id; no other address is known. -/
def State.lookup (s : State) (a : MacAddr) : Option DeskId :=
  if a = 0 then none else (List.finRange 128).find? fun d => s.desks[d].config.address = a

/-- A desk is JOINED. -/
def State.isJoined (s : State) (d : DeskId) : Bool := s.desks[d].night.state == .joined

/-- QUEUED, WAKING, AWAKE, OFFERED or JOINED: the states in which a desk is busy (R6) and which a close ends (R19). -/
def DeskState.busy : DeskState → Bool
  | .queued | .waking | .awake | .offered | .joined => true
  | _ => false

/-! ## Deadline timers -/

/-- R11, R12: a timer set or restarted with a timeout in seconds: a deadline in ACTIVE, a held remaining time in PAUSED. -/
def State.newTimer (s : State) (seconds : Nat) : DeskTimer :=
  match s.run with
  | .running true _ _ => .held (seconds * 1000)
  | _ => .running (s.now + seconds * 1000)

/-- R12: a timer at RUN PAUSE: the deadline less the present time is held. -/
def DeskTimer.hold (now : Nat) : DeskTimer → DeskTimer
  | .running deadline => .held (deadline - now)
  | .held remaining => .held remaining

/-- R12: a timer at RUN RESUME: the present time plus the remaining time is the deadline. -/
def DeskTimer.release (now : Nat) : DeskTimer → DeskTimer
  | .running deadline => .running deadline
  | .held remaining => .running (now + remaining)

/-- A timer has reached its deadline; a held timer has not (R11, R12). -/
def DeskTimer.due (now : Nat) : DeskTimer → Bool
  | .running deadline => deadline ≤ now
  | .held _ => false

/-- An expiry on the timebase that is present and reached. -/
def reached (now : Nat) : Option Nat → Bool
  | some t => t ≤ now
  | none => false

/-! ## Block memory -/

/-- The canonical form of a block memory: addresses strictly rising and within the slot's 8192 bytes, and no byte equal to what
an unlisted address reads as. -/
def Memory.wf : Memory → Bool
  | [] => true
  | c :: t => c.2 != 0 && c.1 < Config.slotBytes && t.all (fun x => c.1 < x.1) && Memory.wf t

/-- DESIGN CHOICE (assumption log 4): a byte of block memory that nothing has written reads as this. -/
def unwrittenByte : Byte := 0

/-- The byte at an address of a block memory. -/
def memByte (m : Memory) (a : Nat) : Byte :=
  match m.find? (fun c => c.1 = a) with
  | some c => c.2
  | none => unwrittenByte

/-- The cells that list the given bytes from an address onward. -/
def cellsFrom : Nat → List Byte → Memory
  | _, [] => []
  | a, b :: t => if b != unwrittenByte && a < Config.slotBytes then (a, b) :: cellsFrom (a + 1) t else cellsFrom (a + 1) t

/-- R64: write bytes from an address onward; the slot's memory ends at 8192 bytes. -/
def memWrite (m : Memory) (a : Nat) (data : List Byte) : Memory :=
  m.filter (fun c => c.1 < a) ++ cellsFrom a data ++ m.filter (fun c => a + data.length ≤ c.1)

/-- n bytes of a block memory from an address onward. -/
def memRead (m : Memory) (a n : Nat) : List Byte := (List.range n).map fun i => memByte m (a + i)

/-! ## Ports -/

/-- The link state of a port (R134). -/
def State.link (s : State) : Port → Bool
  | .upstream => s.upstreamLink
  | .room => s.roomLink

/-- The other port. -/
def otherPort : Port → Port
  | .upstream => .room
  | .room => .upstream

/-- The frames in counter of a port (R148). -/
def inCounter : Port → Counter
  | .upstream => .upstreamIn
  | .room => .roomIn

/-- The frames out counter of a port (R148). -/
def outCounter : Port → Counter
  | .upstream => .upstreamOut
  | .room => .roomOut

/-- The frames dropped counter of a port (R148). -/
def droppedCounter : Port → Counter
  | .upstream => .upstreamDropped
  | .room => .roomDropped

/-- R138: a frame that arrived at port p enters the FIFO toward the other port, or is dropped and counted for a down link or a
full FIFO. -/
def State.passThrough (s : State) (p : Port) (frame : List Byte) : State :=
  if s.link (otherPort p) then
    match p with
    | .upstream =>
      if s.toRoom.length < Config.fifoFrames then { s with toRoom := s.toRoom ++ [frame] } else s.count .toRoomOverflow
    | .room =>
      if s.toUpstream.length < Config.fifoFrames then { s with toUpstream := s.toUpstream ++ [frame] }
      else s.count .toUpstreamOverflow
  else s.count (droppedCounter p)

end Sys2Proof.Machine
end

