-- ==== Sys2Proof/Machine/Operands.lean ====
section
/-! DEFINITION. The operand forms of the commands: the kinds of management request with the shortest body of each (R152), the
fields of the request bodies (10_frame_formats.md, "Management request bodies"), the fields of JOIN and REPORT (R164), and
the run parameter record (R120, R121). -/

namespace Sys2Proof.Machine

/-! ## Request kinds -/

/-- The 27 request kinds (R152). -/
inductive ReqKind where
  | identify | deskWrite | deskRead | circuitWrite | circuitRead | matchWrite | matchRead | matchLive | slotmapWrite
  | slotmapRead | stationWrite | runStart | runPause | runResume | runStop | enqueue | reportRelease | blockOpen | blockMore
  | ringFlush | wantedRead | wantedTake | statusRead | countersRead | eventsClear | engineReset | fullReset
  deriving DecidableEq, Repr

/-- The kind codes 0x01 to 0x1B (10_frame_formats.md, the kind table). -/
def ReqKind.code : ReqKind → Nat
  | .identify => 0x01 | .deskWrite => 0x02 | .deskRead => 0x03 | .circuitWrite => 0x04 | .circuitRead => 0x05
  | .matchWrite => 0x06 | .matchRead => 0x07 | .matchLive => 0x08 | .slotmapWrite => 0x09 | .slotmapRead => 0x0A
  | .stationWrite => 0x0B | .runStart => 0x0C | .runPause => 0x0D | .runResume => 0x0E | .runStop => 0x0F | .enqueue => 0x10
  | .reportRelease => 0x11 | .blockOpen => 0x12 | .blockMore => 0x13 | .ringFlush => 0x14 | .wantedRead => 0x15
  | .wantedTake => 0x16 | .statusRead => 0x17 | .countersRead => 0x18 | .eventsClear => 0x19 | .engineReset => 0x1A
  | .fullReset => 0x1B

/-- The request kind of a code, if it is one. -/
def ReqKind.ofCode? : Nat → Option ReqKind
  | 0x01 => some .identify | 0x02 => some .deskWrite | 0x03 => some .deskRead | 0x04 => some .circuitWrite
  | 0x05 => some .circuitRead | 0x06 => some .matchWrite | 0x07 => some .matchRead | 0x08 => some .matchLive
  | 0x09 => some .slotmapWrite | 0x0A => some .slotmapRead | 0x0B => some .stationWrite | 0x0C => some .runStart
  | 0x0D => some .runPause | 0x0E => some .runResume | 0x0F => some .runStop | 0x10 => some .enqueue
  | 0x11 => some .reportRelease | 0x12 => some .blockOpen | 0x13 => some .blockMore | 0x14 => some .ringFlush
  | 0x15 => some .wantedRead | 0x16 => some .wantedTake | 0x17 => some .statusRead | 0x18 => some .countersRead
  | 0x19 => some .eventsClear | 0x1A => some .engineReset | 0x1B => some .fullReset
  | _ => none

/-- R152, check 4: the shortest body of each kind, before the lengths a body declares for itself. -/
def ReqKind.minBody : ReqKind → Nat
  | .deskWrite => 2
  | .deskRead => 1
  | .circuitWrite => 2
  | .circuitRead => 1
  | .matchWrite => 21
  | .matchRead => 1
  | .matchLive => 1
  | .slotmapWrite => 16
  | .stationWrite => 1
  | .runStart => 51
  | .enqueue => 2
  | .blockOpen => 12
  | .blockMore => 1
  | .countersRead => 1
  | .eventsClear => 1
  | _ => 0

/-- R153: the response to a request of a known kind. -/
def State.answer (s : State) (r : ProtocolFrame) (k : ReqKind) (status : Status) (body : List Byte) : State :=
  s.respond r k.code status body

/-- R152: a refused request changes nothing, and its response carries the header and the status alone. -/
def State.refuse (s : State) (r : ProtocolFrame) (k : ReqKind) (status : Status) : State := s.answer r k status []

/-- A desk id, if the number is one (R6, R9). -/
def deskOf? (n : Nat) : Option DeskId := if h : n < 128 then some ⟨n, h⟩ else none

/-- A circuit number, if the number is one (R22, R24). -/
def circuitOf? (n : Nat) : Option CircuitId := if h : n < 8 then some ⟨n, h⟩ else none

/-- A match entry index, if the number is one (R141, R142). -/
def entryOf? (n : Nat) : Option (Fin 32) := if h : n < 32 then some ⟨n, h⟩ else none

/-! ## Bodies whose fields a mask names -/

/-- Take the next n-byte field when the mask names it; none when the body is too short for it. -/
def takeField (named : Bool) (n : Nat) (l : List Byte) : Option (Option Nat × List Byte) :=
  if named then if n ≤ l.length then some (some (beNat l 0 n), l.drop n) else none else some (none, l)

/-- The configuration fields a DESK WRITE carries; a field the mask does not name is none. -/
structure DeskFields where
  address : Option MacAddr
  circuit : Option Nat
  weight : Option Nat
  lease : Option Ipv4
  enrolled : Option Nat
  deriving DecidableEq, Repr

/-- The named fields in the order address, circuit, surge weight, lease address, enrolled; none for a body too short. -/
def parseDeskFields (mask : Byte) (l : List Byte) : Option DeskFields := do
  let (address, l) ← takeField (mask.getLsbD 0) 6 l
  let (circuit, l) ← takeField (mask.getLsbD 1) 1 l
  let (weight, l) ← takeField (mask.getLsbD 2) 1 l
  let (lease, l) ← takeField (mask.getLsbD 3) 4 l
  let (enrolled, _) ← takeField (mask.getLsbD 4) 1 l
  some { address := address.map (BitVec.ofNat 48), circuit := circuit, weight := weight, lease := lease.map (BitVec.ofNat 32),
         enrolled := enrolled }

/-- The fields a CIRCUIT WRITE carries. -/
structure CircuitFields where
  budget : Option Nat
  decay : Option Nat
  gap : Option Nat
  deriving DecidableEq, Repr

/-- The named fields in the order budget, decay factor, gap time; none for a body too short. -/
def parseCircuitFields (mask : Byte) (l : List Byte) : Option CircuitFields := do
  let (budget, l) ← takeField (mask.getLsbD 0) 2 l
  let (decay, l) ← takeField (mask.getLsbD 1) 1 l
  let (gap, _) ← takeField (mask.getLsbD 2) 2 l
  some ⟨budget, decay, gap⟩

/-! ## MATCH WRITE, SLOTMAP WRITE, STATION WRITE -/

/-- R141: the entry a MATCH WRITE carries after its index; none when check 4 fails. -/
def parseMatchEntry (l : List Byte) : Option MatchEntry := do
  let port ← MatchPort.ofCode? (byteAt l 1).toNat
  let nightOnly ← boolOfCode? (byteAt l 19).toNat
  let action ← MatchAction.ofCode? (byteAt l 20).toNat
  if (byteAt l 2).toNat ≤ 120 then
    some { port := port, offset := (byteAt l 2).toNat, key := Vector.ofFn fun i => byteAt l (3 + i.val),
           mask := Vector.ofFn fun i => byteAt l (11 + i.val), nightOnly := nightOnly, action := action, hits := 0 }
  else none

/-- R146: the 16 entries a SLOTMAP WRITE carries; none when one names no source. -/
def parseSlotMap (l : List Byte) : Option (Vector Source 16) :=
  if (List.range 16).all fun i => (Source.ofCode? (byteAt l i).toNat).isSome then
    some (Vector.ofFn fun i => (Source.ofCode? (byteAt l i.val).toNat).getD .pass)
  else none

/-- The addresses a STATION WRITE carries after its count. -/
def parseStations (n : Nat) (l : List Byte) : List MacAddr := (List.range n).map fun i => macAt l (1 + 6 * i)

/-! ## RUN START -/

/-- R120, check 1: the fixed part of 51 bytes and the strings whose lengths it declares. -/
def runStartLength (l : List Byte) : Nat := 51 + (byteAt l 49).toNat + (byteAt l 50).toNat

/-- R121: a setting brought into its range. -/
def clampSetting (low high v : Nat) : Nat := max low (min high v)

/-- The record a RUN START body carries, before R121. The after action is the one carried (R120 has checked it). -/
def parseRunParams (l : List Byte) : RunParams where
  runTag := BitVec.ofNat 16 (beNat l 0 2)
  blockCount := beNat l 2 3
  imageCheck := BitVec.ofNat 32 (beNat l 5 4)
  streamGroup := macAt l 9
  bootServer := ipAt l 15
  leaseTime := beNat l 19 4
  subnetMask := ipAt l 23
  router := ipAt l 27
  loaderName := (l.drop 51).take (byteAt l 49).toNat
  marker := (l.drop (51 + (byteAt l 49).toNat)).take (byteAt l 50).toNat
  afterAction := (AfterAction.ofCode? (byteAt l 31).toNat).getD .stay
  noticeEnable := (byteAt l 32).setWidth 7
  window := beNat l 33 2
  wakeTimeout := beNat l 35 1
  discoveryTimeout := beNat l 36 1
  joinTimeout := beNat l 37 1
  silenceTimeout := beNat l 38 1
  reportInterval := beNat l 39 1
  wakeAttemptLimit := beNat l 40 1
  pollLimit := beNat l 41 1
  restartLimit := beNat l 42 1
  repairBurst := beNat l 43 1
  lagLimit := beNat l 44 2
  decayInterval := beNat l 46 2
  lowWater := beNat l 48 1

/-- R121: a 0 in a setting with a default becomes the default; this alone is no clamp. -/
def RunParams.withDefaults (p : RunParams) : RunParams :=
  { p with
    repairBurst := if p.repairBurst = 0 then 4 else p.repairBurst
    decayInterval := if p.decayInterval = 0 then 100 else p.decayInterval
    lowWater := if p.lowWater = 0 then 16 else p.lowWater }

/-- R121: every numeric setting from the window to the low-water setting brought into its range. -/
def RunParams.clamped (p : RunParams) : RunParams :=
  { p with
    window := clampSetting 1 1440 p.window
    wakeTimeout := clampSetting 1 255 p.wakeTimeout
    discoveryTimeout := clampSetting 1 255 p.discoveryTimeout
    joinTimeout := clampSetting 1 255 p.joinTimeout
    silenceTimeout := clampSetting 1 60 p.silenceTimeout
    reportInterval := clampSetting 1 60 p.reportInterval
    wakeAttemptLimit := clampSetting 1 7 p.wakeAttemptLimit
    pollLimit := clampSetting 1 7 p.pollLimit
    restartLimit := clampSetting 0 7 p.restartLimit
    repairBurst := clampSetting 1 8 p.repairBurst
    lagLimit := clampSetting 100 60000 p.lagLimit
    decayInterval := clampSetting 10 1000 p.decayInterval
    lowWater := clampSetting 1 63 p.lowWater }

/-- R121: the record as taken. -/
def takenParams (l : List Byte) : RunParams := (parseRunParams l).withDefaults.clamped

/-- R121: whether any setting was brought into its range by clamping. -/
def anyClamped (l : List Byte) : Bool := takenParams l != (parseRunParams l).withDefaults

/-! ## Block requests -/

/-- The header a BLOCK OPEN carries: sequence 3, pass 1, length 2, check word 4, notify flag 1 (R163: any value but 0 is yes). -/
def parseBlockHeader (l : List Byte) : BlockHeader where
  sequence := beNat l 0 3
  pass := beNat l 3 1
  length := beNat l 4 2
  check := BitVec.ofNat 32 (beNat l 6 4)
  notify := byteAt l 10 != 0

/-- R64: the fragment count of a block of a length. -/
def fragmentCount (length : Nat) : Nat := (length + 1023) / 1024

/-- R64: the data length required for fragment i of a block of a length. -/
def fragmentLength (length i : Nat) : Nat :=
  if i + 1 < fragmentCount length then Config.fragmentBytes else length - Config.fragmentBytes * (fragmentCount length - 1)

/-! ## Desk frames -/

/-- The fields of a REPORT (R103). -/
structure ReportFields where
  runTag : BitVec 16
  ack : Nat
  missing : Nat
  image : ImageStatus
  naks : List Nat
  ranges : List Range
  deriving DecidableEq, Repr

/-- R164: the checks on the header that hold for every desk frame: version 1, and a body length within the frame. -/
def deskHeaderGood (r : ProtocolFrame) : Bool := r.version == 1 && r.bodyLen ≤ r.rest.length

/-- R164: the hardware address and the loader version of a JOIN; none when it is malformed. -/
def parseJoin (r : ProtocolFrame) : Option (MacAddr × BitVec 16) :=
  let l := bodyOf r
  if deskHeaderGood r && 8 ≤ l.length && macAt l 0 != 0 && !isGroup (macAt l 0) then
    some (macAt l 0, BitVec.ofNat 16 (beNat l 6 2))
  else none

/-- R164: the fields of a REPORT; none when it is malformed. -/
def parseReport (r : ProtocolFrame) : Option ReportFields :=
  let l := bodyOf r
  let naks := (byteAt l 10).toNat
  let ranges := (byteAt l 11).toNat
  if deskHeaderGood r && 12 ≤ l.length && naks ≤ 8 && ranges ≤ 4 && 12 + 4 * naks + 6 * ranges ≤ l.length then
    (ImageStatus.ofCode? (byteAt l 9).toNat).map fun image =>
      { runTag := BitVec.ofNat 16 (beNat l 0 2), ack := beNat l 2 4, missing := beNat l 6 3, image := image,
        naks := (List.range naks).map fun i => beNat l (12 + 4 * i) 4,
        ranges := (List.range ranges).map fun i =>
          { first := beNat l (12 + 4 * naks + 6 * i) 3, count := beNat l (12 + 4 * naks + 6 * i + 3) 3 } }
  else none

end Sys2Proof.Machine
end

