-- ==== Sys2Proof/Machine/Flags.lean ====
section
/-! DEFINITION. The event flags and the notices their raisings send (R158, R160). -/

namespace Sys2Proof.Machine

/-- The bit of an event kind in an event set (10_frame_formats.md, "An event set"). -/
def EventKind.bit (k : EventKind) : EventSet := 1#7 <<< k.code

/-- Whether a kind is in a set. -/
def EventSet.has (e : EventSet) (k : EventKind) : Bool := e.getLsbD k.code

/-- R160: the notice of a raising, to the run owner, when its kind is in the notice enable set. The datum's bytes come first and zeros
fill it up to 4. DEDUCED (assumption log 18): the one-byte values of RING_SPACE, PASS_BEGIN and RUN_CLOSED stand in the first byte,
a place that 10_frame_formats.md does not name for them. -/
def State.sendNotice (s : State) (k : EventKind) (datum : List Byte) : State :=
  if EventSet.has s.noticeEnable k then
    match s.run.info? with
    | some info => s.putReply (.notice info.owner info.params.runTag k (padTo 4 datum))
    | none => s
  else s

/-- R158: raise an event: its flag becomes or stays set, and the raising is handled for a notice. -/
def State.raise (s : State) (k : EventKind) (datum : List Byte) : State :=
  State.sendNotice { s with flags := s.flags ||| k.bit } k datum

end Sys2Proof.Machine
end

