-- ==== Sys2Proof/Machine/WantedList.lean ====
section
/-! DEFINITION. The Wanted List's insertion and overflow (R113 to R115). -/

namespace Sys2Proof.Machine

/-- The block after the end of a range. -/
def Range.stop (r : Range) : Nat := r.first + r.count

/-- R115: the number of blocks lying between two neighbouring ranges. -/
def gapBetween (a b : Range) : Nat := b.first - a.first - a.count

/-- R115: the smallest gap of neighbouring ranges, if there are two ranges. -/
def smallestGap : List Range → Option Nat
  | a :: b :: t =>
    match smallestGap (b :: t) with
    | some g => some (min (gapBetween a b) g)
    | none => some (gapBetween a b)
  | _ => none

/-- R115: replace the first neighbouring pair with the given gap by one range that covers both and the gap. -/
def mergeFirstGap (g : Nat) : List Range → List Range
  | a :: b :: t =>
    if gapBetween a b = g then ⟨a.first, b.stop - a.first⟩ :: t else a :: mergeFirstGap g (b :: t)
  | l => l

/-- R115: a list of 33 ranges merges the neighbouring pair with the smallest gap, the lowest such pair on a tie. -/
def resolveOverflow (l : List Range) : List Range :=
  if Config.wantedRanges < l.length then
    match smallestGap l with
    | some g => mergeFirstGap g l
    | none => l
  else l

/-- R114, step 3: the range from f up to stop merged with every range of the list that it overlaps or touches. -/
def mergeInto (l : List Range) (f stop : Nat) : List Range :=
  let touched := l.filter fun r => decide (f ≤ r.stop) && decide (r.first ≤ stop)
  let lo := touched.foldl (fun a r => min a r.first) f
  let hi := touched.foldl (fun a r => max a r.stop) stop
  l.filter (fun r => r.stop < f) ++ ⟨lo, hi - lo⟩ :: l.filter (fun r => stop < r.first)

/-- R114: the insertion of a first block and a count, with N the image block count. -/
def insertRange (n : Nat) (l : List Range) (f c : Nat) : List Range :=
  if n ≤ f ∨ c = 0 then l else resolveOverflow (mergeInto l f (min (f + c) n))

/-- R114: an insertion into the Wanted List; N is read from the run parameter record. -/
def State.insertWanted (s : State) (f c : Nat) : State :=
  match s.run.info? with
  | some info => { s with wanted := insertRange info.params.blockCount s.wanted f c }
  | none => s

end Sys2Proof.Machine
end

