-- ==== Sys2Proof/Machine/RingOps.lean ====
section
/-! DEFINITION. The Block Ring's shared operations: what a slot holds (R59, R60), occupancy, pending sets (R68, R69),
retirement (R70), forced retirement (R73), the discard of a FILLING block (R66), and the RING_SPACE comparison (R77). -/

namespace Sys2Proof.Machine

def Slot.held : Slot → Bool
  | .empty => false
  | _ => true

def Slot.isFilling : Slot → Bool
  | .filling _ _ => true
  | _ => false

def Slot.isReady : Slot → Bool
  | .ready _ => true
  | _ => false

def Slot.isSent : Slot → Bool
  | .sent _ _ _ _ => true
  | _ => false

/-- R59: the number of slots that are not EMPTY. -/
def State.occupancy (s : State) : Nat := s.slots.toList.countP Slot.held

/-- The number of EMPTY slots: 64 less the occupancy. -/
def State.emptySlots (s : State) : Nat := Config.ringSlots - s.occupancy

/-- Whether some slot is FILLING. -/
def State.anyFilling (s : State) : Bool := s.slots.toList.any Slot.isFilling

/-- Whether some slot is READY. -/
def State.anyReady (s : State) : Bool := s.slots.toList.any Slot.isReady

/-- R66: the open-block header, the header of the block being filled at fill. -/
def State.openHeader (s : State) : Option BlockHeader :=
  match s.slots[s.fill] with
  | .filling h _ => some h
  | _ => none

/-- R60: a slot is in transmission while the Stream Engine's record names it, cut or not. -/
def State.inTransmission (s : State) (i : SlotId) : Bool :=
  match s.transmission with
  | some t => t.slot == i
  | none => false

/-- R89: a slot's repair-queued field, yes exactly while it is in the Repair Queue. -/
def State.repairQueued (s : State) (i : SlotId) : Bool := s.repairQueue.contains i

/-- R79: STARVED. -/
def State.starved (s : State) : Bool := (s.current == s.fill && !s.anyReady) || s.exhausted

/-! ## Retirement -/

/-- R70: the tail slot is SENT, its pending set is empty, it is not repair-queued and not in transmission. -/
def State.tailRetirable (s : State) : Bool :=
  match s.slots[s.tail] with
  | .sent _ _ _ waiting => waiting.isEmpty && !s.repairQueued s.tail && !s.inTransmission s.tail
  | _ => false

/-- The tail slot becomes EMPTY and tail advances by one. -/
def State.dropTail (s : State) : State := { s with slots := s.slots.set s.tail .empty, tail := s.tail + 1 }

/-- R70: the check, repeated at each new tail, at most n times. -/
def State.retireUpTo : Nat → State → State
  | 0, s => s
  | n + 1, s => if s.tailRetirable then State.retireUpTo n s.dropTail else s

/-- R70: the retirement check; a ring of 64 slots is empty after 64 retirements. -/
def State.retire (s : State) : State := State.retireUpTo Config.ringSlots s

/-- A slot with one desk removed from its pending set. -/
def Slot.without (d : DeskId) : Slot → Slot
  | .sent h position firstSend waiting => .sent h position firstSend (waiting.filter (· != d))
  | other => other

/-- R69: a desk leaves the pending set of every slot, and the retirement check follows. -/
def State.leaveRing (s : State) (d : DeskId) : State :=
  State.retire { s with slots := Vector.ofFn fun i => (s.slots[i]).without d }

/-- R73, step 1: a lag count raised by one, saturating at 255. -/
def Night.lagged (n : Night) : Night := { n with lagCount := min (n.lagCount + 1) Config.lagLimitCount }

/-- R73: forced retirement of a SENT tail slot with the given sequence and pending set. -/
def State.forceTail (s : State) (sequence : Nat) (waiting : List DeskId) : State :=
  let s1 := s.mapNight fun d desk => if waiting.contains d then desk.night.lagged else desk.night
  let s2 := s1.insertWanted sequence 1
  let s3 := { s2 with repairQueue := s2.repairQueue.filter (· != s2.tail) }
  s3.dropTail.retire

/-! ## Emptying -/

/-- R66: a block still FILLING is discarded: its slot becomes EMPTY and the discard counter is raised by one, on every
occasion that R66 lists (DEDUCED against R129, R156 and R161, assumption log 7). -/
def State.discardFilling (s : State) : State :=
  if s.anyFilling then
    State.count { s with slots := Vector.ofFn fun i => if (s.slots[i]).isFilling then .empty else s.slots[i] } .discards
  else s

/-- Every slot becomes EMPTY, a FILLING one discarded as R66 lays down (R61, R75, R76). -/
def State.clearRing (s : State) : State := { s.discardFilling with slots := Vector.replicate 64 .empty }

/-! ## RING_SPACE -/

/-- R77: at the end of an event taken in ACTIVE or PAUSED, with `before` the state at its start: raised with the number of EMPTY
slots when that number is at or above the low-water setting and was below it. -/
def State.ringSpace (before s : State) : State :=
  match before.run with
  | .running _ info _ =>
    if before.emptySlots < info.params.lowWater ∧ info.params.lowWater ≤ s.emptySlots then
      s.raise .ringSpace (beBytes 1 s.emptySlots)
    else s
  | _ => s

end Sys2Proof.Machine
end

