-- ==== Sys2Proof/Machine/RunOps.lean ====
section
/-! DEFINITION. A desk's entry to a terminal state (R17, R18), the ALL_DONE condition (R128), the close (R129), and what follows the
own work of an event that may have freed slots or finished desks. -/

namespace Sys2Proof.Machine

/-- R17: the night fields of a desk that enters FAILED. -/
def Night.failed (cause : FailCause) (n : Night) : Night :=
  { n with state := .failed, failCause := some cause, timer := none, joinedPos := none }

/-- R17: a desk fails with a cause other than RUN_ENDED: it leaves every pending set and DESK_FAILED is raised. -/
def State.failDesk (s : State) (d : DeskId) (cause : FailCause) : State :=
  ((s.modifyNight d (Night.failed cause)).leaveRing d).raise .deskFailed (beBytes 1 d.val ++ beBytes 1 cause.code)

/-- R18: the completion time: ms from the taking of RUN START. -/
def State.elapsed (s : State) : Nat :=
  match s.run.info? with
  | some info => s.now - info.start
  | none => 0

/-- R18: the night fields of a desk that enters COMPLETE. -/
def Night.completed (elapsed : Nat) (n : Night) : Night :=
  { n with state := .complete, completion := some elapsed, timer := none, joinedPos := none }

/-- R18: a desk becomes COMPLETE: it leaves every pending set and DESK_DONE is raised. -/
def State.completeDesk (s : State) (d : DeskId) : State :=
  ((s.modifyNight d (Night.completed s.elapsed)).leaveRing d).raise .deskDone (beBytes 1 d.val)

/-- R128: every desk that is not IDLE is COMPLETE or FAILED, and the Wake Queue is empty. -/
def State.allDone (s : State) : Bool := s.wakeQueue.isEmpty && s.desks.toList.all fun d => !d.night.state.busy

/-- R41: a circuit at the close: its timers stop and its load is kept. -/
def Circuit.stopped (c : Circuit) : Circuit := { c with gapTimer := none, decayTimer := none }

/-- R129: a close, in the order of its steps; RUN_CLOSED is raised last. Outside ACTIVE and PAUSED there is nothing to close. -/
def State.closeRun (s : State) (cause : CloseCause) : State :=
  match s.run with
  | .running _ info deadline =>
    let s1 := s.mapNight fun _ desk => if desk.night.state.busy then desk.night.failed .runEnded else desk.night
    let s2 := State.clearRing
      { s1 with wakeQueue := [], circuits := Vector.ofFn fun c => (s1.circuits[c]).stopped, repairQueue := [],
                transmission := none, repairCount := 0 }
    State.raise { s2 with controlQueue := [], run := .closed info cause (deadline - s.now) } .runClosed (beBytes 1 cause.code)
  | _ => s

/-- R128: the evaluation, in ACTIVE and PAUSED. -/
def State.evaluateAllDone (s : State) : State := if s.run.inProgress && s.allDone then s.closeRun .allDone else s

/-- What follows an event's own work: the RING_SPACE comparison with the state at its start (R77), then, when a desk became COMPLETE,
or FAILED with a cause other than RUN_ENDED, the ALL_DONE evaluation (R128). -/
def State.settle (before s : State) (finished : Bool) : State :=
  if finished then (State.ringSpace before s).evaluateAllDone else State.ringSpace before s

end Sys2Proof.Machine
end

