-- ==== Sys2Proof/Machine/BlockRing.lean ====
section
/-! DEFINITION. The Block Ring's requests (04_the_block_ring.md): BLOCK OPEN (R62), BLOCK MORE (R63), the taking of a fragment
(R64), the block check (R65), the lag rule (R72) and RING FLUSH (R75). -/

namespace Sys2Proof.Machine

/-- An event's outcome at the ring: the state, and the status and body of the response if one is sent. -/
abbrev RingOutcome := State × Option (Status × List Byte)

/-! ## Fragments -/

/-- R65: the body of the response to a completed block: the slot index and the number of EMPTY slots. -/
def blockAnswer (slot : SlotId) (s : State) : List Byte := beBytes 1 slot.val ++ beBytes 1 s.emptySlots

/-- R65: the check of the completed block at fill. -/
def State.checkBlock (s : State) (h : BlockHeader) : RingOutcome :=
  if crc32 (memRead s.blockMem[s.fill] 0 h.length) = h.check then
    let s1 := State.count { s with slots := s.slots.set s.fill (.ready h), fill := s.fill + 1 } .blocksCompleted
    (s1, some (.ok, blockAnswer s.fill s1))
  else
    let s1 := State.count { s with slots := s.slots.set s.fill .empty } .checkFailures
    (s1, some (.badCheck, blockAnswer s.fill s1))

/-- Whether a fragment map holds every index from 0 to k − 1 (R64). -/
def mapComplete (map : Vector Bool 8) (k : Nat) : Bool := (List.finRange 8).all fun i => decide (k ≤ i.val) || map[i]

/-- R64: a fragment that has passed its checks is taken for the block at fill. -/
def State.takeFragment (s : State) (h : BlockHeader) (map : Vector Bool 8) (i : Fin 8) (data : List Byte) : RingOutcome :=
  if map[i] then (s.count .duplicateFragments, none)
  else
    let map' := map.set i true
    let s1 := { s with
      blockMem := s.blockMem.set s.fill (memWrite s.blockMem[s.fill] (Config.fragmentBytes * i.val) data)
      slots := s.slots.set s.fill (.filling h map') }
    if mapComplete map' (fragmentCount h.length) then s1.checkBlock h else (s1, none)

/-- R62, R63: the last two checks on a fragment: its index and its data length. -/
def fragmentFault (length i dataLength : Nat) : Option Status :=
  if fragmentCount length ≤ i then some .badFormat
  else if dataLength ≠ fragmentLength length i then some .badLength
  else none

/-- A fragment index of a block of at most 8 fragments. -/
def fragmentOf? (n : Nat) : Option (Fin 8) := if h : n < 8 then some ⟨n, h⟩ else none

/-- What ends an event at the ring: RING_SPACE (R77), then the response, if one is sent (R153). -/
def ringAnswer (before : State) (r : ProtocolFrame) (k : ReqKind) (o : RingOutcome) : State :=
  match o.2 with
  | some (status, body) => State.answer (State.ringSpace before o.1) r k status body
  | none => State.ringSpace before o.1

/-! ## BLOCK OPEN -/

/-- R72: the lag rule and forced retirement; none when it does not free the tail of a full ring. -/
def State.lagRule (s : State) (info : RunInfo) : Option State :=
  match s.slots[s.tail] with
  | .sent h _ firstSend waiting =>
    if !s.inTransmission s.tail && decide (info.params.lagLimit ≤ s.now - firstSend) then some (s.forceTail h.sequence waiting)
    else none
  | _ => none

/-- R62, step 2: seek a slot; none is RING_FULL. -/
def State.seekSlot (s : State) (info : RunInfo) : Option State :=
  if s.occupancy < Config.ringSlots then some s else s.lagRule info

/-- R62, step 4: a pass above the current pass becomes it and raises PASS_BEGIN. -/
def State.beginPass (s : State) (pass : Nat) : State :=
  if s.currentPass < pass then State.raise { s with currentPass := pass } .passBegin (beBytes 1 pass) else s

/-- R62: checks 3 to 7 of a BLOCK OPEN on the state; none when every one passes. -/
def blockOpenFault (s : State) (info : RunInfo) (h : BlockHeader) (i dataLength : Nat) : Option Status :=
  if info.params.blockCount ≤ h.sequence then some .badIndex
  else if h.length = 0 ∨ Config.slotBytes < h.length then some .badLength
  else if h.pass < s.currentPass then some .stalePass
  else fragmentFault h.length i dataLength

/-- R62: steps 1 to 5 of a BLOCK OPEN that has passed its checks. -/
def State.openBlock (s : State) (info : RunInfo) (h : BlockHeader) (i : Fin 8) (data : List Byte) : RingOutcome :=
  match s.discardFilling.seekSlot info with
  | none => (s.discardFilling, some (.ringFull, []))
  | some s2 =>
    let map := Vector.replicate 8 false
    let s3 := { s2 with slots := s2.slots.set s2.fill (.filling h map) }
    (s3.beginPass h.pass).takeFragment h map i data

/-- R62: BLOCK OPEN. -/
def blockOpenRule (r : ProtocolFrame) (s : State) : State :=
  let b := bodyOf r
  let h := parseBlockHeader b
  if b.length < 12 then s.refuse r .blockOpen .badFormat
  else
    match s.run with
    | .running _ info _ =>
      match blockOpenFault s info h (byteAt b 11).toNat (b.length - 12), fragmentOf? (byteAt b 11).toNat with
      | some status, _ => s.refuse r .blockOpen status
      | none, none => s.refuse r .blockOpen .badFormat
      | none, some i => ringAnswer s r .blockOpen (s.openBlock info h i (b.drop 12))
    | _ => s.refuse r .blockOpen .wrongState

/-! ## BLOCK MORE -/

/-- R63: BLOCK MORE. -/
def blockMoreRule (r : ProtocolFrame) (s : State) : State :=
  let b := bodyOf r
  if b.length < 1 then s.refuse r .blockMore .badFormat
  else
    match s.slots[s.fill] with
    | .filling h map =>
      match fragmentFault h.length (byteAt b 0).toNat (b.length - 1), fragmentOf? (byteAt b 0).toNat with
      | some status, _ => s.refuse r .blockMore status
      | none, none => s.refuse r .blockMore .badFormat
      | none, some i => ringAnswer s r .blockMore (s.takeFragment h map i (b.drop 1))
    | _ => s.refuse r .blockMore .noOpenBlock

/-! ## RING FLUSH -/

/-- The slots in ring order from tail onward. -/
def State.ringOrder (s : State) : List SlotId := (List.finRange 64).map fun i => s.tail + i

/-- R75, step 1: the sequence a slot puts into the Wanted List, if it is READY, or SENT with a pending set that is not empty. -/
def Slot.owed : Slot → Option Nat
  | .ready h => some h.sequence
  | .sent h _ _ waiting => if waiting.isEmpty then none else some h.sequence
  | _ => none

/-- R75, step 1: the sequences inserted, in ring order. -/
def State.owedSequences (s : State) : List Nat := s.ringOrder.filterMap fun i => (s.slots[i]).owed

/-- R75: the five steps of a RING FLUSH that is taken. -/
def State.flushRing (s : State) : State :=
  let s1 := s.owedSequences.foldl (fun t q => t.insertWanted q 1) s
  let s2 := s1.clearRing
  { s2 with repairQueue := [], transmission := none, tail := s2.fill, current := s2.fill }

/-- R75: RING FLUSH. -/
def ringFlushRule (r : ProtocolFrame) (s : State) : State :=
  match s.run with
  | .running true _ _ =>
    State.answer (State.ringSpace s s.flushRing) r .ringFlush .ok
      (beBytes 1 s.owedSequences.length ++ beBytes 1 s.flushRing.emptySlots)
  | _ => s.refuse r .ringFlush .wrongState

end Sys2Proof.Machine
end

