-- ==== Sys2Proof/Machine/Circuits.lean ====
section
/-! DEFINITION. Circuits and Wake Scheduling (02_circuits_and_wake_scheduling.md): the scan of the Wake Queue (R30 to R35), the
decay and gap timers (R26 to R28), wake confirmation by presence (R36, R37), and CIRCUIT WRITE and CIRCUIT READ (R22 to R24). -/

namespace Sys2Proof.Machine

/-! ## The scan -/

/-- R25: the load after a wake. -/
def loadAfterWake (load weight : Nat) : Nat := min (load + weight) 65535

/-- R33, steps 5 and 6: a circuit charged for a wake at the present time. -/
def Circuit.charged (now weight : Nat) (c : Circuit) : Circuit :=
  { c with load := loadAfterWake c.load weight, gapTimer := if 0 < c.gap then some (now + c.gap) else c.gapTimer }

/-- R33: the scan wakes a desk. -/
def State.wakeDesk (s : State) (info : RunInfo) (d : DeskId) : State :=
  let cfg := s.desks[d].config
  let s1 := State.modifyNight { s with wakeQueue := s.wakeQueue.filter (· != d) } d fun n =>
    { n with wakeAttempts := n.wakeAttempts + 1, state := .waking, timer := some (s.newTimer info.params.wakeTimeout) }
  let s2 := s1.putControl (.wake info.params.runTag cfg.address)
  { s2 with circuits := s2.circuits.set cfg.circuit ((s2.circuits[cfg.circuit]).charged s.now cfg.weight) }

/-- R31, step 1: the desk's circuit budget is 0 or below the desk's weight. -/
def State.overBudget (s : State) (d : DeskId) : Bool :=
  let c := s.circuits[s.desks[d].config.circuit]
  c.budget == 0 || decide (c.budget < s.desks[d].config.weight)

/-- R31, step 2: the desk is eligible. -/
def State.eligible (s : State) (d : DeskId) : Bool :=
  let c := s.circuits[s.desks[d].config.circuit]
  decide (c.load + s.desks[d].config.weight ≤ c.budget) && c.gapTimer.isNone
    && decide (s.controlQueue.length < Config.controlFrames)

/-- R31, R32: the scan considers one desk; the flag says whether any desk has failed in the walk. -/
def State.scanDesk (info : RunInfo) (acc : State × Bool) (d : DeskId) : State × Bool :=
  let s := acc.1
  if s.overBudget d then
    (State.failDesk { s with wakeQueue := s.wakeQueue.filter (· != d) } d .overBudget, true)
  else if s.eligible d then (s.wakeDesk info d, acc.2)
  else acc

/-- R30, R31, R39: one scan, from the oldest desk to the newest; in ACTIVE only. The flag says whether a desk failed in it. -/
def State.scan (s : State) : State × Bool :=
  match s.run with
  | .running false info _ => s.wakeQueue.foldl (State.scanDesk info) (s, false)
  | _ => (s, false)

/-- A scan trigger ending an event (R30): the scan, then what follows the event's own work (R77, R128). -/
def State.scanAndSettle (before s : State) : State := State.settle before s.scan.1 s.scan.2

/-! ## Decay and gap timers -/

/-- R26: the amount a decay step removes, ceil(L × D / 256) computed as floor((L × D + 255) / 256). -/
def decayAmount (load decay : Nat) : Nat := (load * decay + 255) / 256

/-- R26, R27: a circuit after a decay step whose timer expired at t. -/
def Circuit.decayed (interval t : Nat) (c : Circuit) : Circuit :=
  { c with load := c.load - decayAmount c.load c.decay, decayTimer := some (t + interval) }

/-- R26, R27: the decay timer of a circuit expires, in ACTIVE or PAUSED, and triggers a scan; nothing when it is not due
(assumption log 6). -/
def decayStepEvent (c : CircuitId) (s : State) : State :=
  match s.run, (s.circuits[c]).decayTimer with
  | .running _ info _, some t =>
    if t ≤ s.now then
      State.scanAndSettle s
        { s with circuits := s.circuits.set c ((s.circuits[c]).decayed info.params.decayInterval t) }
    else s
  | _, _ => s

/-- R28: the gap timer of a circuit expires, in ACTIVE or PAUSED, and triggers a scan; nothing when it is not due (assumption log 6). -/
def gapExpiryEvent (c : CircuitId) (s : State) : State :=
  if s.run.inProgress && reached s.now (s.circuits[c]).gapTimer then
    State.scanAndSettle s { s with circuits := s.circuits.set c { s.circuits[c] with gapTimer := none } }
  else s

/-! ## Presence -/

/-- R36, R37: the desk has been woken and not yet heard: WAKING, or QUEUED with wake attempts of at least 1. -/
def Night.awaitsPresence (n : Night) : Bool := n.state == .waking || (n.state == .queued && decide (1 ≤ n.wakeAttempts))

/-- R37: a re-queued desk leaves the Wake Queue; R36: a WAKING desk is not in it. -/
def State.unqueue (s : State) (d : DeskId) : State :=
  if s.desks[d].night.state == .queued then { s with wakeQueue := s.wakeQueue.filter (· != d) } else s

/-- R36, R37: a frame from a desk's address, in ACTIVE and PAUSED: a WAKING desk, or one re-queued after a wake, becomes AWAKE
and is in the Wake Queue no longer. Any other desk is left as it stands. -/
def State.deskHeard (s : State) (d : DeskId) : State :=
  match s.run with
  | .running _ info _ =>
    if (s.desks[d].night).awaitsPresence then
      (s.unqueue d).modifyNight d fun n =>
        { n with state := .awake, timer := some (s.newTimer info.params.discoveryTimeout) }
    else s
  | _ => s

/-- R136: the presence lookup of a Room port frame's source address. -/
def State.presence (s : State) (src : MacAddr) : State :=
  match s.lookup src with
  | some d => s.deskHeard d
  | none => s

/-! ## Requests -/

/-- R22: a circuit record with the named fields written, a gap time above 10000 ms limited. -/
def Circuit.written (f : CircuitFields) (c : Circuit) : Circuit :=
  { c with budget := f.budget.getD c.budget, decay := f.decay.getD c.decay, gap := (f.gap.map (min 10000)).getD c.gap }

/-- R22: whether a gap time was limited. -/
def CircuitFields.limited (f : CircuitFields) : Bool := decide (10000 < f.gap.getD 0)

/-- R22: CIRCUIT WRITE. -/
def circuitWriteRule (r : ProtocolFrame) (s : State) : State :=
  let b := bodyOf r
  if b.length < 2 || 8 ≤ (byteAt b 1).toNat then s.refuse r .circuitWrite .badFormat
  else
    match parseCircuitFields (byteAt b 1) (b.drop 2), circuitOf? (byteAt b 0).toNat with
    | none, _ => s.refuse r .circuitWrite .badFormat
    | some _, none => s.refuse r .circuitWrite .badIndex
    | some f, some c =>
      let written := (s.circuits[c]).written f
      State.answer { s with circuits := s.circuits.set c written } r .circuitWrite
        (if f.limited then .clamped else .ok) (beBytes 1 c.val ++ written.bytes s.now)

/-- R24: CIRCUIT READ. -/
def circuitReadRule (r : ProtocolFrame) (s : State) : State :=
  let b := bodyOf r
  if b.length < 1 then s.refuse r .circuitRead .badFormat
  else
    match circuitOf? (byteAt b 0).toNat with
    | none => s.refuse r .circuitRead .badIndex
    | some c => s.answer r .circuitRead .ok (beBytes 1 c.val ++ (s.circuits[c]).bytes s.now)

end Sys2Proof.Machine
end

