-- ==== Sys2Proof/Machine/DeskTable.lean ====
section
/-! DEFINITION. The Desk Table (01_the_desk_table.md): DESK WRITE and DESK READ (R6, R7, R9), the per-state counts (R10), and the
expiries of the desk deadline timers (R13, R14, R16). -/

namespace Sys2Proof.Machine

/-! ## Requests -/

/-- R7: a configuration with the named fields written; a weight of 0 becomes 1. `circuit` is the checked circuit number. -/
def DeskConfig.written (f : DeskFields) (c : DeskConfig) : DeskConfig where
  address := f.address.getD c.address
  circuit := (f.circuit.bind circuitOf?).getD c.circuit
  weight := (f.weight.map fun w => if w = 0 then 1 else w).getD c.weight
  lease := f.lease.getD c.lease
  enrolled := (f.enrolled.bind boolOfCode?).getD c.enrolled

/-- R6, checks 4 to 8 on a record and the fields carried; none when every one passes. -/
def deskWriteFault (s : State) (d : DeskId) (f : DeskFields) : Option Status :=
  let address := f.address.getD 0
  if s.desks[d].night.state.busy then some .deskBusy
  else if f.circuit.isSome && ((f.circuit.bind circuitOf?).isNone) then some .badIndex
  else if f.enrolled.isSome && ((f.enrolled.bind boolOfCode?).isNone) then some .badFormat
  else if f.address.isSome && (isGroup address || address == s.station) then some .badFormat
  else if address != 0 && ((List.finRange 128).any fun e => e != d && s.desks[e].config.address == address) then
    some .duplicateAddress
  else none

/-- R6, R7: DESK WRITE. -/
def deskWriteRule (r : ProtocolFrame) (s : State) : State :=
  let b := bodyOf r
  if b.length < 2 || 32 ≤ (byteAt b 1).toNat then s.refuse r .deskWrite .badFormat
  else
    match parseDeskFields (byteAt b 1) (b.drop 2), deskOf? (byteAt b 0).toNat with
    | none, _ => s.refuse r .deskWrite .badFormat
    | some _, none => s.refuse r .deskWrite .badIndex
    | some f, some d =>
      match deskWriteFault s d f with
      | some status => s.refuse r .deskWrite status
      | none =>
        let written := (s.desks[d].config).written f
        State.answer { s with desks := s.desks.set d { s.desks[d] with config := written } } r .deskWrite
          (if f.weight = some 0 then .clamped else .ok) (beBytes 1 d.val ++ written.bytes)

/-- R9: DESK READ. -/
def deskReadRule (r : ProtocolFrame) (s : State) : State :=
  let b := bodyOf r
  if b.length < 1 then s.refuse r .deskRead .badFormat
  else
    match deskOf? (byteAt b 0).toNat with
    | none => s.refuse r .deskRead .badIndex
    | some d =>
      s.answer r .deskRead .ok (beBytes 1 d.val ++ (s.desks[d].config).bytes ++ (s.desks[d].night).bytes s.now)

/-- R10: the number of records in a state, over all 128. -/
def State.deskCount (s : State) (x : DeskState) : Nat := s.desks.toList.countP fun d => d.night.state == x

/-! ## Deadline timer expiries -/

/-- R11, R12: the deadline timer of a desk in the given state expires: the run is ACTIVE and the present time has reached it.
DESIGN CHOICE (assumption log 6): a command for an expiry that is not due has no effect. -/
def State.deskDue (s : State) (d : DeskId) (x : DeskState) : Bool :=
  s.run.active && s.desks[d].night.state == x
    && (match s.desks[d].night.timer with
        | some t => t.due s.now
        | none => false)

/-- A desk fails at an expiry, and what follows (R17, R77, R128). -/
def State.failAndSettle (s : State) (d : DeskId) (cause : FailCause) : State := State.settle s (s.failDesk d cause) true

/-- R13: the deadline of a WAKING desk: re-queued below the wake attempt limit, with a scan; NO_WAKE at the limit. -/
def wakeTimeoutEvent (d : DeskId) (s : State) : State :=
  match s.run with
  | .running _ info _ =>
    if s.deskDue d .waking then
      if s.desks[d].night.wakeAttempts < info.params.wakeAttemptLimit then
        let s1 := s.modifyNight d fun n => { n with state := .queued, timer := none }
        State.scanAndSettle s { s1 with wakeQueue := s1.wakeQueue ++ [d] }
      else s.failAndSettle d .noWake
    else s
  | _ => s

/-- R14: the deadline of an AWAKE desk. -/
def discoveryTimeoutEvent (d : DeskId) (s : State) : State :=
  if s.deskDue d .awake then s.failAndSettle d .noDiscovery else s

/-- R14: the deadline of an OFFERED desk. -/
def joinTimeoutEvent (d : DeskId) (s : State) : State :=
  if s.deskDue d .offered then s.failAndSettle d .noJoin else s

/-- R16, R111: the deadline of a JOINED desk: polled below the poll limit, with its timer restarted; SILENT at the limit. -/
def silenceTimeoutEvent (d : DeskId) (s : State) : State :=
  match s.run with
  | .running _ info _ =>
    if s.deskDue d .joined then
      if s.desks[d].night.polls < info.params.pollLimit then
        let s1 := s.modifyNight d fun n =>
          { n with polls := n.polls + 1, timer := some (s.newTimer info.params.silenceTimeout) }
        s1.putControl (.poll (s.desks[d].config.address) info.params.runTag (s.desks[d].night.polls + 1))
      else s.failAndSettle d .silent
    else s
  | _ => s

end Sys2Proof.Machine
end

