-- ==== Sys2Proof/Machine/Boot.lean ====
section
/-! DEFINITION. Boot Discovery Steering (03_boot_discovery_steering.md): parsing a discovery (R44, R45, R165), the conditions of an
answer (R46, R47), the answers and restarts (R49 to R56), and the hand-back (R48). -/

namespace Sys2Proof.Machine

/-! ## Parsing -/

/-- The options the walk keeps: the first occurrence of each (R45). -/
structure BootOptions where
  messageType : Option Nat
  vendorClass : Option (List Byte)
  server : Option Ipv4
  deriving DecidableEq, Repr

/-- R45: one option met in the walk; none where its first occurrence has a length that makes the frame unparseable. -/
def takeOption (o : BootOptions) (code : Byte) (value : List Byte) : Option BootOptions :=
  if code = 53 && o.messageType.isNone then
    if value.length = 1 then some { o with messageType := some (byteAt value 0).toNat } else none
  else if code = 60 && o.vendorClass.isNone then some { o with vendorClass := some value }
  else if code = 54 && o.server.isNone then
    if value.length = 4 then some { o with server := some (ipAt value 0) } else none
  else some o

/-- R45: the walk of the option area, with as many steps as it has bytes. -/
def walkOptions : Nat → List Byte → BootOptions → Option BootOptions
  | 0, _, o => some o
  | _ + 1, [], o => some o
  | n + 1, code :: t, o =>
    if code = 0 then walkOptions n t o
    else if code = 255 then some o
    else
      match t with
      | [] => none
      | len :: v =>
        if v.length < len.toNat then none
        else
          match takeOption o code (v.take len.toNat) with
          | some o' => walkOptions n (v.drop len.toNat) o'
          | none => none

/-- The fields the Boot Responder keeps from a parseable frame (R44). -/
structure Discovery where
  transaction : BitVec 32
  bootFlags : BitVec 16
  clientAddress : BitVec 32
  gateway : Ipv4
  client : MacAddr
  messageType : Nat
  vendorClass : Option (List Byte)
  server : Option Ipv4
  deriving DecidableEq, Repr

/-- R44: the checks on the Ethernet, IPv4 and UDP headers and the fixed part of the boot message. -/
def bootHeaderGood (f : List Byte) : Bool :=
  let h := (byteAt f 14).toNat % 16
  let total := beNat f 16 2
  let udp := 14 + 4 * h
  let udpLength := beNat f (udp + 4) 2
  let m := udp + 8
  beNat f 12 2 == 0x0800
    && (byteAt f 14).toNat / 16 == 4 && decide (5 ≤ h)
    && decide (4 * h + 8 ≤ total) && decide (total + 14 ≤ f.length)
    && onesSum ((f.drop 14).take (4 * h)) == 65535
    && beNat f 20 2 % 16384 == 0
    && (byteAt f 23).toNat == 17
    && beNat f (udp + 2) 2 == 67
    && decide (248 ≤ udpLength) && decide (udpLength ≤ total - 4 * h)
    && (byteAt f m).toNat == 1 && (byteAt f (m + 1)).toNat == 1 && (byteAt f (m + 2)).toNat == 6
    && beNat f (m + 236) 4 == 0x63825363

/-- R44, R45, R165: a Room port BOOT frame read; none when it is not parseable. -/
def parseDiscovery (f : List Byte) : Option Discovery :=
  let udp := 14 + 4 * ((byteAt f 14).toNat % 16)
  let m := udp + 8
  let options := (f.drop (m + 240)).take (beNat f (udp + 4) 2 - 248)
  if bootHeaderGood f then
    match walkOptions options.length options ⟨none, none, none⟩ with
    | some o =>
      o.messageType.map fun messageType =>
        { transaction := BitVec.ofNat 32 (beNat f (m + 4) 4), bootFlags := BitVec.ofNat 16 (beNat f (m + 10) 2),
          clientAddress := BitVec.ofNat 32 (beNat f (m + 12) 4), gateway := ipAt f (m + 24), client := macAt f (m + 28),
          messageType := messageType, vendorClass := o.vendorClass, server := o.server }
    | none => none
  else none

/-! ## Qualification -/

/-- R47: the frame carries the run's boot client marker; a marker of length 0 is absent. -/
def carriesMarker (marker : List Byte) : Option (List Byte) → Bool
  | some v => marker.isPrefixOf v
  | none => marker.isEmpty

/-- R46, condition 5. -/
def DeskState.answerable : DeskState → Bool
  | .awake | .offered | .joined => true
  | _ => false

/-- R46: the desk a parseable frame qualifies for an answer to, with the run's record; none when a condition fails. -/
def State.qualifies (s : State) (q : Discovery) : Option (RunInfo × DeskId) :=
  match s.run with
  | .running _ info _ =>
    if (q.messageType == 1 || q.messageType == 3) && q.gateway == 0 && carriesMarker info.params.marker q.vendorClass
        && (q.messageType == 1 || q.server.isNone || q.server == some info.params.bootServer) then
      match s.lookup q.client with
      | some d =>
        if (s.desks[d].night.state).answerable && s.desks[d].config.lease != 0 then some (info, d) else none
      | none => none
    else none
  | _ => none

/-! ## Answers -/

/-- R53, R54: the reply to desk d. -/
def bootReplyFor (info : RunInfo) (cfg : DeskConfig) (q : Discovery) : BootReply where
  acknowledge := q.messageType == 3
  client := cfg.address
  lease := cfg.lease
  server := info.params.bootServer
  leaseTime := info.params.leaseTime
  subnetMask := info.params.subnetMask
  router := info.params.router
  loaderName := info.params.loaderName
  transaction := q.transaction
  bootFlags := q.bootFlags
  clientAddress := q.clientAddress

/-- R56: the reply is put into the Control Queue and counted as a boot reply, or dropped and counted. -/
def State.sendBootReply (s : State) (b : BootReply) : State :=
  if s.controlQueue.length < Config.controlFrames then (s.putControl (.bootReply b)).count .bootReplies
  else s.putControl (.bootReply b)

/-- R49, R50: an AWAKE or OFFERED desk is OFFERED with its join timeout set or restarted. -/
def State.offerDesk (s : State) (info : RunInfo) (d : DeskId) : State :=
  s.modifyNight d fun n => { n with state := .offered, timer := some (s.newTimer info.params.joinTimeout) }

/-- R51, steps 1 to 3: a JOINED desk restarts. -/
def State.restartDesk (s : State) (info : RunInfo) (d : DeskId) : State :=
  (s.modifyNight d fun n =>
    { n with restarts := n.restarts + 1, state := .offered, joinedPos := none,
             timer := some (s.newTimer info.params.joinTimeout) }).leaveRing d

/-- R48: a frame handed back: counted, and given to pass-through unchanged. -/
def State.handBack (s : State) (p : Port) (frame : List Byte) : State := (s.count .bootPassBacks).passThrough p frame

/-- R49 to R52: a qualifying frame; the flag says whether the desk failed. -/
def State.answerDiscovery (s : State) (frame : List Byte) (q : Discovery) (info : RunInfo) (d : DeskId) : State × Bool :=
  let reply := bootReplyFor info (s.desks[d].config) q
  if s.isJoined d then
    if s.desks[d].night.restarts < info.params.restartLimit then ((s.restartDesk info d).sendBootReply reply, false)
    else ((s.failDesk d .restarts).handBack .room frame, true)
  else ((s.offerDesk info d).sendBootReply reply, false)

/-- R43: the Boot Responder takes a frame handed to it with the action BOOT. -/
def State.bootHandle (s : State) (p : Port) (frame : List Byte) : State × Bool :=
  match p with
  | .upstream => (s.handBack p frame, false)
  | .room =>
    match parseDiscovery frame with
    | none => (s.handBack p frame, false)
    | some q =>
      match s.qualifies q with
      | none => (s.handBack p frame, false)
      | some (info, d) => s.answerDiscovery frame q info d

/-- The Boot Responder's whole event on a frame, with what follows it (R77, R128). -/
def State.bootEvent (s : State) (p : Port) (frame : List Byte) : State :=
  State.settle s (s.bootHandle p frame).1 (s.bootHandle p frame).2

end Sys2Proof.Machine
end

