-- ==== Sys2Proof/Machine/Stream.lean ====
section
/-! DEFINITION. The Stream Engine (05_the_stream_engine_and_repair.md): the frame it offers (R83), first transmissions (R84),
repairs (R85), fragment frames and the end of a transmission (R86), the choice at a block boundary (R87), repair requests
(R90), and the cut of a transmission (R92 to R94). -/

namespace Sys2Proof.Machine

/-! ## What the engine offers -/

/-- R83, case 2: no position exhausted condition, and the slot at current is READY. -/
def State.newBlockReady (s : State) : Bool := !s.exhausted && (s.slots[s.current]).isReady

/-- R83: the engine has a frame to offer to the Room egress. -/
def State.streamOffers (s : State) : Bool :=
  s.run.active && s.roomLink && (s.transmission.isSome || s.newBlockReady || !s.repairQueue.isEmpty)

/-! ## Fragments -/

/-- R86: the fragment frame of a slot, built from its record and block memory as they stand. A slot in transmission is SENT (R82); DESIGN
CHOICE (assumption log 14): in a state that no run reaches, another slot gives an empty frame. -/
def State.fragmentFrame (s : State) (info : RunInfo) (t : Transmission) : List Byte :=
  match s.slots[t.slot] with
  | .sent h position _ _ =>
    vendorFrame info.params.streamGroup s.station Kind.streamData 0
      (streamBody info.params.runTag position h t.next (fragmentCount h.length) (t.kind == .repair)
        (memRead s.blockMem[t.slot] (Config.fragmentBytes * t.next) (fragmentLength h.length t.next)))
  | _ => []

/-- The fragment count of the block in a SENT slot. -/
def State.slotFragments (s : State) (i : SlotId) : Nat :=
  match s.slots[i] with
  | .sent h _ _ _ => fragmentCount h.length
  | _ => 0

/-- R86, R78: the end of a transmission: the record becomes absent, the retirement check is made, and for a first transmission
RING_DRAINED is raised when nothing is READY or FILLING. -/
def State.endTransmission (s : State) (kind : TxKind) : State :=
  let s1 := State.retire { s with transmission := none }
  if kind == .first && !s1.anyReady && !s1.anyFilling then s1.raise .ringDrained [] else s1

/-- R82, R86: the next fragment frame of a transmission is handed: the record moves on, or the transmission ends. -/
def State.handFragment (s : State) (info : RunInfo) (t : Transmission) : State × List Byte :=
  if s.slotFragments t.slot ≤ t.next + 1 then (s.endTransmission t.kind, s.fragmentFrame info t)
  else ({ s with transmission := some { t with next := t.next + 1 } }, s.fragmentFrame info t)

/-! ## Starts of transmissions -/

/-- R84, step 3: every desk then JOINED, in ascending order. -/
def State.joinedDesks (s : State) : List DeskId := (List.finRange 128).filter fun d => s.isJoined d

/-- R80, R81: the counter after a first transmission has taken its value. -/
def State.takePosition (s : State) : State :=
  if s.position < Config.lastPosition then { s with position := s.position + 1 } else { s with exhausted := true }

/-- R84, steps 1 to 4: the slot at current becomes SENT and current advances. -/
def State.sendCurrent (s : State) (h : BlockHeader) : State :=
  State.takePosition
    { s with slots := s.slots.set s.current (.sent h s.position s.now s.joinedDesks), current := s.current + 1, repairCount := 0 }

/-- R84, step 7: BLOCK_SENT when the notify flag is yes. -/
def State.notifySent (s : State) (h : BlockHeader) : State :=
  if h.notify then s.raise .blockSent (beBytes 3 h.sequence) else s

/-- R84: the start of the first transmission of the slot at current, which is READY. -/
def State.startFirst (s : State) (info : RunInfo) : State × List Byte :=
  match s.slots[s.current] with
  | .ready h =>
    (((s.sendCurrent h).count .firstTransmissions).notifySent h).handFragment info
      { slot := s.current, kind := .first, next := 0, cut := false }
  | _ => (s, [])

/-- R85: the start of a repair of the slot at the head of the Repair Queue. -/
def State.startRepair (s : State) (info : RunInfo) (i : SlotId) (rest : List SlotId) : State × List Byte :=
  let t : Transmission := { slot := i, kind := .repair, next := 0, cut := false }
  let s1 := { s with repairQueue := rest, transmission := some t,
                     repairCount := min (s.repairCount + 1) info.params.repairBurst }
  (s1.retire.count .repairs).handFragment info t

/-- R87: the choice at a block boundary. -/
def State.chooseBlock (s : State) (info : RunInfo) : State × List Byte :=
  match s.repairQueue with
  | [] => s.startFirst info
  | i :: rest =>
    if s.repairCount < info.params.repairBurst then s.startRepair info i rest
    else if s.newBlockReady then s.startFirst info
    else s.startRepair info i rest

/-- R83: the Room egress takes the offered frame: the next fragment of the transmission in progress, or the start of one. -/
def State.serveStream (s : State) (info : RunInfo) : State × List Byte :=
  match s.transmission with
  | some t => s.handFragment info t
  | none => s.chooseBlock info

/-! ## Repair requests -/

/-- R90: a repair request for a SENT slot. -/
def State.requestRepair (s : State) (i : SlotId) : State :=
  if s.repairQueued i then s
  else if s.repairQueue.length < Config.repairEntries then { s with repairQueue := s.repairQueue ++ [i] }
  else s.count .repairOverflows

/-! ## Cuts -/

/-- R92, R94: a transmission in progress and not cut is cut, its next fragment 0. -/
def cutTransmission : Option Transmission → Option Transmission
  | some t => if t.cut then some t else some { t with cut := true, next := 0 }
  | none => none

/-- R93, R94: the cut of a transmission is cleared; the block is sent again from fragment 0. -/
def uncutTransmission : Option Transmission → Option Transmission
  | some t => some { t with cut := false }
  | none => none

end Sys2Proof.Machine
end

