-- ==== Sys2Proof/Machine/Reports.lean ====
section
/-! DEFINITION. Desk Reports and the Wanted List (06_desk_reports_and_the_wanted_list.md): JOIN (R98 to R101), REPORT (R103 to
R110), and WANTED READ and WANTED TAKE (R116). -/

namespace Sys2Proof.Machine

/-- R97: a desk protocol frame is ignored and counted. -/
def State.ignoreReport (s : State) : State := s.count .reportsIgnored

/-! ## JOIN -/

/-- R101: a JOIN-REFUSE to the address the JOIN carried. -/
def State.refuseJoin (s : State) (info : RunInfo) (client : MacAddr) (version : BitVec 16) (reason : RefuseReason) : State :=
  s.putControl (.joinRefuse client reason version info.params.runTag)

/-- R100: a JOIN-ACCEPT to desk d, carrying its joined position. -/
def State.acceptJoin (s : State) (info : RunInfo) (d : DeskId) (version : BitVec 16) : State :=
  let p := info.params
  s.putControl (.joinAccept (s.desks[d].config.address) p.runTag version p.blockCount p.imageCheck p.streamGroup
    p.reportInterval ((s.desks[d].night.joinedPos).getD 0))

/-- R99, steps 1 to 4: an OFFERED desk becomes JOINED. -/
def State.joinDesk (s : State) (info : RunInfo) (d : DeskId) : State :=
  s.modifyNight d fun n =>
    { n with state := .joined, joinedPos := some s.position, polls := 0, timer := some (s.newTimer info.params.silenceTimeout) }

/-- R98: a JOIN that is not malformed. -/
def State.takeJoin (s : State) (client : MacAddr) (version : BitVec 16) : State :=
  match s.run with
  | .standby => s.ignoreReport
  | .closed info _ _ => s.refuseJoin info client version .notRunning
  | .running _ info _ =>
    match s.lookup client with
    | none => s.refuseJoin info client version .unknown
    | some d =>
      match s.desks[d].night.state with
      | .offered => (s.joinDesk info d).acceptJoin info d version
      | .joined => s.acceptJoin info d version
      | _ => s.refuseJoin info client version .notReady

/-- R97, R98: the Report Handler takes a frame of kind JOIN. -/
def joinRule (r : ProtocolFrame) (s : State) : State :=
  match parseJoin r with
  | some (client, version) => s.takeJoin client version
  | none => s.ignoreReport

/-! ## REPORT -/

/-- R110: a FINISH to desk d. -/
def State.sendFinish (s : State) (info : RunInfo) (d : DeskId) (imageFailed : Bool) (action : AfterAction) : State :=
  s.putControl (.finish (s.desks[d].config.address) info.params.runTag imageFailed action)

/-- R104, step 2: a slot acknowledged by a desk: SENT, with a position below P that is no NAK. DESIGN CHOICE (assumption log 19): this test
holds with the position exhausted (R81) too, where a P of 4294967295, though it is not below the counter, leaves a slot of that
position. -/
def Slot.acknowledged (d : DeskId) (p : Nat) (naks : List Nat) : Slot → Slot
  | .sent h position firstSend waiting =>
    if position < p ∧ !naks.contains position then .sent h position firstSend (waiting.filter (· != d))
    else .sent h position firstSend waiting
  | other => other

/-- R104, step 2: the acknowledgements, with the retirement check that follows, made once after them all (DEDUCED, assumption log 10). -/
def State.acknowledge (s : State) (d : DeskId) (p : Nat) (naks : List Nat) : State :=
  State.retire { s with slots := Vector.ofFn fun i => (s.slots[i]).acknowledged d p naks }

/-- R105: the SENT slot that holds a stream position. -/
def State.slotAt (s : State) (position : Nat) : Option SlotId :=
  (List.finRange 64).find? fun i =>
    match s.slots[i] with
    | .sent _ x _ _ => x == position
    | _ => false

/-- R105: one position of the NAK list. DESIGN CHOICE (assumption log 19): with the position exhausted (R81), a NAK of 4294967295 is a repair
request for the SENT slot that has that position. -/
def State.takeNak (s : State) (position : Nat) : State :=
  match s.slotAt position with
  | some i => s.requestRepair i
  | none => s.count .naksIgnored

/-- R104 to R106: steps 1 to 5 of a REPORT processed for JOINED desk d. -/
def State.applyReport (s : State) (info : RunInfo) (d : DeskId) (f : ReportFields) : State :=
  let s1 := s.modifyNight d fun n => { n with polls := 0, timer := some (s.newTimer info.params.silenceTimeout) }
  let s2 := s1.acknowledge d f.ack f.naks
  let s3 := f.naks.foldl State.takeNak s2
  let s4 := f.ranges.foldl (fun t r => t.insertWanted r.first r.count) s3
  s4.modifyNight d fun n =>
    { n with lastAck := some f.ack, missing := some (min f.missing info.params.blockCount), image := f.image }

/-- R107, R108: steps 6 and 7: the desk completes, fails on a bad image, or stays JOINED; the flag says whether it finished. -/
def State.concludeReport (s : State) (info : RunInfo) (d : DeskId) (f : ReportFields) : State × Bool :=
  if min f.missing info.params.blockCount = 0 ∧ f.image = .good then
    ((s.completeDesk d).sendFinish info d false info.params.afterAction, true)
  else if f.image = .bad then ((s.failDesk d .imageBad).sendFinish info d true .stay, true)
  else (s, false)

/-- R104 to R108: a REPORT processed, with what follows it (R77, R128). -/
def State.processReport (s : State) (info : RunInfo) (d : DeskId) (f : ReportFields) : State :=
  let o := ((s.count .reportsTaken).applyReport info d f).concludeReport info d f
  State.settle s o.1 o.2

/-- R103: a REPORT that is not malformed, from the given source address. -/
def State.takeReport (s : State) (src : MacAddr) (f : ReportFields) : State :=
  match s.run.info?, s.lookup src with
  | some info, some d =>
    if f.runTag ≠ info.params.runTag then s.ignoreReport
    else if s.isJoined d && s.run.inProgress then s.processReport info d f
    else if s.desks[d].night.state = .complete then
      (s.count .reportsTaken).sendFinish info d false info.params.afterAction
    else s.ignoreReport
  | _, _ => s.ignoreReport

/-- R97, R103: the Report Handler takes a frame of kind REPORT. -/
def reportRule (r : ProtocolFrame) (s : State) : State :=
  match parseReport r with
  | some f => s.takeReport r.src f
  | none => s.ignoreReport

/-- R97, R164: the Report Handler takes a Room port frame of any kind. -/
def deskFrameRule (kind : Nat) (r : ProtocolFrame) (s : State) : State :=
  if kind = Kind.join then joinRule r s
  else if kind = Kind.report then reportRule r s
  else s.ignoreReport

/-! ## Requests -/

/-- R116: WANTED READ. -/
def wantedReadRule (r : ProtocolFrame) (s : State) : State := s.answer r .wantedRead .ok (wantedBytes s.wanted)

/-- R116: WANTED TAKE. -/
def wantedTakeRule (r : ProtocolFrame) (s : State) : State :=
  State.answer { s with wanted := [] } r .wantedTake .ok (wantedBytes s.wanted)

end Sys2Proof.Machine
end

