-- ==== Sys2Proof/Machine/FramePath.lean ====
section
/-! DEFINITION. The Frame Path (08_the_frame_path.md): links (R134), the Match Table (R139 to R142), the Room egress (R145, R146), the
Upstream egress (R147) and the end of sending a frame. -/

namespace Sys2Proof.Machine

/-! ## Links -/

/-- R134, R94: a link goes down. A link that is down already does not go down (assumption log 6). -/
def linkDownEvent (p : Port) (s : State) : State :=
  match p with
  | .upstream =>
    if s.upstreamLink then
      let s1 := s.countBy .roomDropped s.toUpstream.length
      let s2 := if s.upstreamSending.isSome then s1.count .upstreamDropped else s1
      { s2 with upstreamLink := false, toUpstream := [], upstreamSending := none }
    else s
  | .room =>
    if s.roomLink then
      let s1 := s.countBy .upstreamDropped s.toRoom.length
      let s2 := if s.roomSending.isSome then s1.count .roomDropped else s1
      { s2 with roomLink := false, toRoom := [], roomSending := none,
                transmission := if s.run.active then cutTransmission s.transmission else s.transmission }
    else s

/-- R134, R94: a link comes up. A link that is up already does not come up (assumption log 6). -/
def linkUpEvent (p : Port) (s : State) : State :=
  match p with
  | .upstream => { s with upstreamLink := true }
  | .room =>
    if s.roomLink then s
    else { s with roomLink := true,
                  transmission := if s.run.active then uncutTransmission s.transmission else s.transmission }

/-! ## The Match Table -/

/-- R139: the entry tests frames that arrived at the port. -/
def MatchPort.covers : MatchPort → Port → Bool
  | .room, .room => true
  | .upstream, .upstream => true
  | .either, _ => true
  | _, _ => false

/-- R139: one byte position of an entry matches a frame. -/
def byteMatches (frame : List Byte) (position : Nat) (key mask : Byte) : Bool :=
  if position < frame.length then (byteAt frame position &&& mask) == (key &&& mask) else mask == 0

/-- R139: an entry matches a frame. -/
def MatchEntry.covers (e : MatchEntry) (p : Port) (frame : List Byte) : Bool :=
  e.port.covers p && (List.finRange 8).all fun i => byteMatches frame (e.offset + i.val) e.key[i] e.mask[i]

/-- R140: an entry takes part in classification. -/
def State.inForce (s : State) (i : Fin 32) : Bool :=
  decide (i.val < s.liveCount) && (!s.matchTable[i].nightOnly || s.run.inProgress)

/-- R140: the first entry, in ascending index order, that takes part and matches. -/
def State.decidingEntry (s : State) (p : Port) (frame : List Byte) : Option (Fin 32) :=
  (List.finRange 32).find? fun i => s.inForce i && (s.matchTable[i]).covers p frame

/-- R140: a hit count rises by one, holding at its limit. -/
def MatchEntry.hit (e : MatchEntry) : MatchEntry := { e with hits := min (e.hits + 1) Config.counterLimit }

/-- R140: the deciding entry's hit count rises by one. -/
def State.hit (s : State) (i : Fin 32) : State := { s with matchTable := s.matchTable.set i s.matchTable[i].hit }

/-- R140: a frame that is not taken out of the flow is classified and its action carried out. -/
def State.classify (s : State) (p : Port) (frame : List Byte) : State :=
  match s.decidingEntry p frame with
  | none => s.passThrough p frame
  | some i =>
    match s.matchTable[i].action with
    | .pass => (s.hit i).passThrough p frame
    | .drop => (s.hit i).count (droppedCounter p)
    | .boot => (s.hit i).bootEvent p frame

/-- R141: MATCH WRITE. -/
def matchWriteRule (r : ProtocolFrame) (s : State) : State :=
  let b := bodyOf r
  if b.length < 21 then s.refuse r .matchWrite .badFormat
  else
    match entryOf? (byteAt b 0).toNat with
    | none => s.refuse r .matchWrite .badIndex
    | some i =>
      if i.val < s.liveCount then s.refuse r .matchWrite .liveEntry
      else
        match parseMatchEntry b with
        | none => s.refuse r .matchWrite .badFormat
        | some e =>
          State.answer { s with matchTable := s.matchTable.set i e } r .matchWrite .ok (beBytes 1 i.val ++ e.bytes)

/-- R142: MATCH READ. -/
def matchReadRule (r : ProtocolFrame) (s : State) : State :=
  let b := bodyOf r
  if b.length < 1 then s.refuse r .matchRead .badFormat
  else
    match entryOf? (byteAt b 0).toNat with
    | none => s.refuse r .matchRead .badIndex
    | some i =>
      s.answer r .matchRead .ok
        (beBytes 1 i.val ++ (s.matchTable[i]).bytes ++ beBytes 1 s.liveCount ++ boolByte (decide (i.val < s.liveCount)))

/-- R142: MATCH LIVE. -/
def matchLiveRule (r : ProtocolFrame) (s : State) : State :=
  let b := bodyOf r
  let n := (byteAt b 0).toNat
  if b.length < 1 then s.refuse r .matchLive .badFormat
  else if Config.matchEntries < n then s.refuse r .matchLive .badIndex
  else State.answer { s with liveCount := n } r .matchLive .ok (beBytes 1 n)

/-! ## The Room egress -/

/-- R146: the bytes of a slot map. -/
def slotMapBytes (m : Vector Source 16) : List Byte := m.toList.map fun x => BitVec.ofNat 8 x.code

/-- R146: SLOTMAP WRITE. -/
def slotmapWriteRule (r : ProtocolFrame) (s : State) : State :=
  let b := bodyOf r
  if b.length < 16 then s.refuse r .slotmapWrite .badFormat
  else if s.run ≠ .standby then s.refuse r .slotmapWrite .wrongState
  else
    match parseSlotMap b with
    | none => s.refuse r .slotmapWrite .badFormat
    | some m => State.answer { s with slotMap := m, egressPos := 0 } r .slotmapWrite .ok (slotMapBytes m)

/-- R146: SLOTMAP READ. -/
def slotmapReadRule (r : ProtocolFrame) (s : State) : State :=
  s.answer r .slotmapRead .ok (slotMapBytes s.slotMap ++ beBytes 1 s.egressPos.val)

/-- R145: a source of the Room egress has a frame. -/
def State.sourceHas (s : State) : Source → Bool
  | .pass => !s.toRoom.isEmpty
  | .control => !s.controlQueue.isEmpty
  | .stream => s.streamOffers

/-- R145: the source a frame opportunity at the Room egress serves; none when no opportunity arises. -/
def State.roomSource (s : State) : Option Source :=
  if s.roomLink && s.roomSending.isNone then
    if s.sourceHas s.slotMap[s.egressPos] then some s.slotMap[s.egressPos]
    else if s.sourceHas .control then some .control
    else if s.sourceHas .pass then some .pass
    else if s.sourceHas .stream then some .stream
    else none
  else none

/-- R145: a frame is handed to the Room port's MAC and the egress position advances by one. -/
def State.handRoom (s : State) (frame : List Byte) : State :=
  { s with roomSending := some frame, egressPos := s.egressPos + 1 }

/-- R145, R144: serve a source; the flag says whether a scan that a departure triggered failed a desk. -/
def State.serveRoom (s : State) : Source → State × Bool
  | .pass =>
    match s.toRoom with
    | frame :: rest => (State.handRoom { s with toRoom := rest } frame, false)
    | [] => (s, false)
  | .control =>
    match s.controlQueue with
    | f :: rest =>
      let s1 := State.handRoom { s with controlQueue := rest } (f.bytes s.station)
      if Config.controlFrames ≤ s.controlQueue.length then s1.scan else (s1, false)
    | [] => (s, false)
  | .stream =>
    match s.run with
    | .running _ info _ => ((s.serveStream info).1.handRoom (s.serveStream info).2, false)
    | _ => (s, false)

/-- R145: a frame opportunity at the Room egress, with what follows it (R77, R128); nothing when none arises (assumption
log 6). -/
def roomOpportunityEvent (s : State) : State :=
  match s.roomSource with
  | some x => State.settle s (s.serveRoom x).1 (s.serveRoom x).2
  | none => s

/-! ## The Upstream egress -/

/-- R147: the source a frame opportunity at the Upstream egress serves; none when no opportunity arises. -/
def State.upstreamSource (s : State) : Option UpSource :=
  if s.upstreamLink && s.upstreamSending.isNone then
    if s.replyQueue.isEmpty then (if s.toUpstream.isEmpty then none else some .fifo)
    else if s.toUpstream.isEmpty then some .reply
    else
      match s.lastServed with
      | .fifo => some .reply
      | .reply => some .fifo
  else none

/-- R147: a frame opportunity at the Upstream egress; nothing when none arises (assumption log 6). -/
def upstreamOpportunityEvent (s : State) : State :=
  match s.upstreamSource with
  | some .reply =>
    match s.replyQueue with
    | f :: rest => { s with replyQueue := rest, upstreamSending := some (f.bytes s.station), lastServed := .reply }
    | [] => s
  | some .fifo =>
    match s.toUpstream with
    | frame :: rest => { s with toUpstream := rest, upstreamSending := some frame, lastServed := .fifo }
    | [] => s
  | none => s

/-- R145, R147: a port's MAC finishes sending a handed frame; nothing when it is sending none (assumption logs 6, 12). -/
def frameSentEvent (p : Port) (s : State) : State :=
  match p with
  | .upstream =>
    if s.upstreamSending.isSome then State.count { s with upstreamSending := none } .upstreamOut else s
  | .room => if s.roomSending.isSome then State.count { s with roomSending := none } .roomOut else s

end Sys2Proof.Machine
end

