-- ==== Sys2Proof/Machine/RunControl.lean ====
section
/-! DEFINITION. The Night Run (07_the_night_run.md): RUN START (R120 to R123), RUN PAUSE and RUN RESUME (R124, R125), ENQUEUE (R126),
the window deadline (R127), RUN STOP (R130) and REPORT RELEASE (R132). -/

namespace Sys2Proof.Machine

/-! ## RUN START -/

/-- An enrolled used record (R122, step 4). -/
def DeskConfig.enrols (c : DeskConfig) : Bool := c.enrolled && c.address != 0

/-- R120: the first check of a RUN START that fails; none when every one passes. -/
def runStartFault (s : State) (b : List Byte) : Option Status :=
  let p := parseRunParams b
  if b.length < 51 ∨ b.length < runStartLength b then some .badFormat
  else
    match s.run with
    | .closed _ _ _ => some .reportHeld
    | .running _ _ _ => some .wrongState
    | .standby =>
      if p.blockCount = 0 then some .badFormat
      else if !isGroup p.streamGroup || p.streamGroup == broadcastAddr then some .badFormat
      else if 64 < (byteAt b 49).toNat ∨ 16 < (byteAt b 50).toNat then some .badFormat
      else if (AfterAction.ofCode? (byteAt b 31).toNat).isNone || (byteAt b 32).getLsbD 7 then some .badFormat
      else if !s.desks.toList.any (fun d => d.config.enrols) then some .noDesks
      else none

/-- A desk's night fields as it is queued: the IDLE values, then QUEUED (R122, R126). -/
def Night.queuedAfresh : Night := { Night.idle with state := .queued }

/-- R40: a circuit at RUN START. -/
def Circuit.started (now interval : Nat) (c : Circuit) : Circuit :=
  { c with load := 0, gapTimer := none, decayTimer := some (now + interval) }

/-- R122, step 4: the desks a RUN START queues, in ascending order. -/
def State.enrolledDesks (s : State) : List DeskId := (List.finRange 128).filter fun d => (s.desks[d].config).enrols

/-- Queue desks afresh at the tail of the Wake Queue, in the order given (R122, R126). -/
def State.queueDesks (s : State) (ds : List DeskId) : State :=
  let s1 := s.mapNight fun d desk => if ds.contains d then Night.queuedAfresh else desk.night
  { s1 with wakeQueue := s1.wakeQueue ++ ds }

/-- R122: steps 1 to 6. -/
def State.beginRun (s : State) (owner : MacAddr) (p : RunParams) : State :=
  let s1 := { s with
    noticeEnable := p.noticeEnable, position := 0, exhausted := false, repairCount := 0, currentPass := 0,
    tail := s.fill, current := s.fill,
    circuits := Vector.ofFn fun c => (s.circuits[c]).started s.now p.decayInterval }
  let s2 := s1.queueDesks s.enrolledDesks
  { s2 with run := .running false { params := p, owner := owner, start := s.now } (s.now + p.window * 60000) }

/-- R120 to R122: RUN START. DEDUCED (assumption log 8): the response follows a RUN_CLOSED notice of the scan's close. -/
def runStartRule (r : ProtocolFrame) (s : State) : State :=
  let b := bodyOf r
  match runStartFault s b with
  | some status => s.refuse r .runStart status
  | none =>
    State.answer (State.scanAndSettle s (s.beginRun r.src (takenParams b))) r .runStart
      (if anyClamped b then .clamped else .ok) ((takenParams b).bytes ++ beBytes 1 s.enrolledDesks.length)

/-! ## RUN PAUSE and RUN RESUME -/

/-- R124: the run is PAUSED, desk deadlines are held, and a transmission in progress is cut. -/
def State.pauseRun (s : State) (info : RunInfo) (deadline : Nat) : State :=
  let s1 := s.mapNight fun _ desk => { desk.night with timer := desk.night.timer.map (DeskTimer.hold s.now) }
  { s1 with run := .running true info deadline, transmission := cutTransmission s1.transmission }

/-- R124: RUN PAUSE. -/
def runPauseRule (r : ProtocolFrame) (s : State) : State :=
  match s.run with
  | .running false info deadline => (s.pauseRun info deadline).answer r .runPause .ok []
  | _ => s.refuse r .runPause .wrongState

/-- R125: the run is ACTIVE, held times are deadlines again, and the cut is cleared when the Room link is up (R93). -/
def State.resumeRun (s : State) (info : RunInfo) (deadline : Nat) : State :=
  let s1 := s.mapNight fun _ desk => { desk.night with timer := desk.night.timer.map (DeskTimer.release s.now) }
  { s1 with run := .running false info deadline,
            transmission := if s1.roomLink then uncutTransmission s1.transmission else s1.transmission }

/-- R125: RUN RESUME. DEDUCED (assumption log 8): the response follows a RUN_CLOSED notice of the scan's close. -/
def runResumeRule (r : ProtocolFrame) (s : State) : State :=
  match s.run with
  | .running true info deadline => (State.scanAndSettle s (s.resumeRun info deadline)).answer r .runResume .ok []
  | _ => s.refuse r .runResume .wrongState

/-! ## ENQUEUE -/

/-- R126: a record an ENQUEUE queues: used, and IDLE or FAILED. -/
def Desk.enqueueable (d : Desk) : Bool :=
  d.config.address != 0 && (d.night.state == .idle || d.night.state == .failed)

/-- R126: the desks queued by a range of desk ids, in ascending order. -/
def State.enqueueDesks (s : State) (first last : Nat) : List DeskId :=
  (List.finRange 128).filter fun d => decide (first ≤ d.val) && decide (d.val ≤ last) && (s.desks[d]).enqueueable

/-- R126: ENQUEUE. A request that queues at least one desk triggers a scan, which runs in ACTIVE only (R30). -/
def enqueueRule (r : ProtocolFrame) (s : State) : State :=
  let b := bodyOf r
  let first := (byteAt b 0).toNat
  let last := (byteAt b 1).toNat
  if b.length < 2 then s.refuse r .enqueue .badFormat
  else if !s.run.inProgress then s.refuse r .enqueue .wrongState
  else if 127 < first ∨ 127 < last then s.refuse r .enqueue .badIndex
  else if last < first then s.refuse r .enqueue .badFormat
  else
    let ds := s.enqueueDesks first last
    let s1 := if ds.isEmpty then s else State.scanAndSettle s (s.queueDesks ds)
    s1.answer r .enqueue .ok (beBytes 1 ds.length)

/-! ## Closing and releasing -/

/-- R130: RUN STOP; the response precedes the RUN_CLOSED notice. -/
def runStopRule (r : ProtocolFrame) (s : State) : State :=
  match s.run with
  | .running _ _ _ => (s.answer r .runStop .ok (beBytes 1 CloseCause.stopped.code)).closeRun .stopped
  | _ => s.refuse r .runStop .wrongState

/-- R127: the window deadline is reached in ACTIVE or PAUSED; nothing when it is not (assumption log 6). -/
def windowEndEvent (s : State) : State :=
  match s.run with
  | .running _ _ deadline => if deadline ≤ s.now then s.closeRun .windowEnd else s
  | _ => s

/-- R132: what a REPORT RELEASE discards. -/
def State.releaseReport (s : State) : State :=
  let s1 := s.mapNight fun _ desk => if desk.night.state = .idle then desk.night else Night.idle
  { s1 with
    wanted := [], controlQueue := [], noticeEnable := 0, run := .standby,
    circuits := Vector.ofFn fun c => { s1.circuits[c] with load := 0, gapTimer := none, decayTimer := none } }

/-- R132: REPORT RELEASE. -/
def reportReleaseRule (r : ProtocolFrame) (s : State) : State :=
  match s.run with
  | .closed _ _ _ => s.releaseReport.answer r .reportRelease .ok []
  | _ => s.refuse r .reportRelease .wrongState

end Sys2Proof.Machine
end

