-- ==== Sys2Proof/Machine/Management.lean ====
section
/-! DEFINITION. Management Requests and Notices (09_management_requests_and_notices.md): the acceptance of a request (R149, R150, R152),
IDENTIFY (R154), STATION WRITE (R151), STATUS READ (R155), COUNTERS READ (R157), EVENTS CLEAR (R159), the reset requests
(R161, R162) and power-on. -/

namespace Sys2Proof.Machine

/-! ## The Management Unit's own requests -/

/-- R154: IDENTIFY. -/
def identifyRule (r : ProtocolFrame) (s : State) : State := s.answer r .identify .ok (identityBytes s.station)

/-- R151, checks 3 and 4: the addresses may be the Station List. -/
def stationsGood (station : MacAddr) (l : List MacAddr) : Bool :=
  l.all (fun a => a != 0 && !isGroup a && a != station) && decide l.Nodup

/-- R151: STATION WRITE. -/
def stationWriteRule (r : ProtocolFrame) (s : State) : State :=
  let b := bodyOf r
  let n := (byteAt b 0).toNat
  let l := parseStations n b
  if b.length < 1 ∨ b.length < 1 + 6 * n then s.refuse r .stationWrite .badFormat
  else if 4 < n then s.refuse r .stationWrite .badFormat
  else if !stationsGood s.station l then s.refuse r .stationWrite .badFormat
  else State.answer { s with stations := l } r .stationWrite .ok (beBytes 1 n ++ l.flatMap macBytes)

/-- R127: the window time left. -/
def State.windowLeft (s : State) : Nat :=
  match s.run with
  | .standby => 0
  | .running _ _ deadline => deadline - s.now
  | .closed _ _ left => left

/-- R129: the close cause, present in CLOSED only. -/
def State.closeCause (s : State) : Option CloseCause :=
  match s.run with
  | .closed _ cause _ => some cause
  | _ => none

/-- The eight desk states in the order of their codes. -/
def deskStates : List DeskState := [.idle, .queued, .waking, .awake, .offered, .joined, .complete, .failed]

/-- R155: the values of a STATUS READ response. -/
def State.statusBytes (s : State) : List Byte :=
  beBytes 1 s.run.code ++ optBytes 1 (s.closeCause.map CloseCause.code) ++ beBytes 4 s.windowLeft
    ++ beBytes 1 s.tail.val ++ beBytes 1 s.current.val ++ beBytes 1 s.fill.val ++ beBytes 1 s.occupancy ++ boolByte s.starved
    ++ beBytes 1 s.currentPass ++ beBytes 4 s.position ++ beBytes 1 s.wakeQueue.length ++ beBytes 1 s.repairQueue.length
    ++ beBytes 1 s.wanted.length ++ beBytes 1 s.flags.toNat ++ deskStates.flatMap fun x => beBytes 1 (s.deskCount x)

/-- R155: STATUS READ. -/
def statusReadRule (r : ProtocolFrame) (s : State) : State := s.answer r .statusRead .ok s.statusBytes

/-- R157: every counter, in the order of the Frame Formats chapter. -/
def State.counterBytes (s : State) : List Byte := s.counters.toList.flatMap (beBytes 4)

/-- R157: COUNTERS READ; a clear is made after the values have been placed in the response and before the response is put
(DEDUCED, assumption log 9). -/
def countersReadRule (r : ProtocolFrame) (s : State) : State :=
  let b := bodyOf r
  if b.length < 1 then s.refuse r .countersRead .badFormat
  else
    match boolOfCode? (byteAt b 0).toNat with
    | none => s.refuse r .countersRead .badFormat
    | some clear =>
      State.answer (if clear then { s with counters := Vector.replicate 22 0 } else s) r .countersRead .ok s.counterBytes

/-- R159: EVENTS CLEAR. -/
def eventsClearRule (r : ProtocolFrame) (s : State) : State :=
  let b := bodyOf r
  if b.length < 1 || (byteAt b 0).getLsbD 7 then s.refuse r .eventsClear .badFormat
  else
    let flags := s.flags &&& ~~~((byteAt b 0).setWidth 7)
    State.answer { s with flags := flags } r .eventsClear .ok (beBytes 1 flags.toNat)

/-! ## Resets -/

/-- R161: the values of every block after an ENGINE RESET. A block still FILLING is discarded and counted (R66,
assumption log 7). -/
def State.engineReset (s : State) : State :=
  let s1 := (s.mapNight fun _ _ => Night.idle).clearRing
  { s1 with
    wakeQueue := []
    circuits := Vector.ofFn fun c => { s1.circuits[c] with load := 0, gapTimer := none, decayTimer := none }
    tail := 0, current := 0, fill := 0, currentPass := 0
    position := 0, exhausted := false, repairQueue := [], transmission := none, repairCount := 0
    wanted := [], controlQueue := [], run := .standby, flags := 0, noticeEnable := 0 }

/-- R161: ENGINE RESET. -/
def engineResetRule (r : ProtocolFrame) (s : State) : State := s.engineReset.answer r .engineReset .ok []

/-- R162: the power-on values of every block, less the Station List and the link states; a frame a MAC is sending is sent whole.
The timebase and the factory's station address are no block's state and go on (DESIGN CHOICE, assumption log 2). -/
def State.fullReset (s : State) : State :=
  { State.reset with
    now := s.now, station := s.station, stations := s.stations, upstreamLink := s.upstreamLink, roomLink := s.roomLink,
    upstreamSending := s.upstreamSending, roomSending := s.roomSending, pending := s.pending }

/-- R162: FULL RESET. -/
def fullResetRule (r : ProtocolFrame) (s : State) : State := s.fullReset.answer r .fullReset .ok []

/-- Power-on: every piece of state at its power-on value; the station address is set at the factory and stays, and
so does the model's queue (assumption log 13). -/
def powerOnEvent (s : State) : State := { State.reset with station := s.station, pending := s.pending }

/-! ## Taking a request -/

/-- R152: the rule of each request kind. -/
def requestRule : ReqKind → ProtocolFrame → State → State
  | .identify => identifyRule
  | .deskWrite => deskWriteRule
  | .deskRead => deskReadRule
  | .circuitWrite => circuitWriteRule
  | .circuitRead => circuitReadRule
  | .matchWrite => matchWriteRule
  | .matchRead => matchReadRule
  | .matchLive => matchLiveRule
  | .slotmapWrite => slotmapWriteRule
  | .slotmapRead => slotmapReadRule
  | .stationWrite => stationWriteRule
  | .runStart => runStartRule
  | .runPause => runPauseRule
  | .runResume => runResumeRule
  | .runStop => runStopRule
  | .enqueue => enqueueRule
  | .reportRelease => reportReleaseRule
  | .blockOpen => blockOpenRule
  | .blockMore => blockMoreRule
  | .ringFlush => ringFlushRule
  | .wantedRead => wantedReadRule
  | .wantedTake => wantedTakeRule
  | .statusRead => statusReadRule
  | .countersRead => countersReadRule
  | .eventsClear => eventsClearRule
  | .engineReset => engineResetRule
  | .fullReset => fullResetRule

/-- R149: the request is dropped before anything else. -/
def requestDropped (kind : Nat) (r : ProtocolFrame) : Bool :=
  isGroup r.src || (r.broadcast && kind != ReqKind.identify.code)

/-- R150: the Station List admits a source. -/
def State.stationAdmits (s : State) (src : MacAddr) : Bool := s.stations.isEmpty || s.stations.contains src

/-- R149, R150, R152: the Management Unit takes a request of any kind. -/
def takeRequest (kind : Nat) (r : ProtocolFrame) (s : State) : State :=
  if requestDropped kind r then s.count .managementDrops
  else if !s.stationAdmits r.src then s.count .managementDrops
  else if r.version ≠ 1 ∨ r.rest.length < r.bodyLen then s.respond r kind .badFormat []
  else
    match ReqKind.ofCode? kind with
    | none => s.respond r kind .unknownKind []
    | some k => if r.bodyLen < k.minBody then s.refuse r k .badFormat else requestRule k r s

end Sys2Proof.Machine
end

