-- ==== Sys2Proof/Machine/Arrival.lean ====
section
/-! DEFINITION. Arrival of a frame (R135 to R137), as one event, whole; and the events whose command names what the frame is: a
management request, a JOIN, a REPORT, a frame classified BOOT (assumption log 3). -/

namespace Sys2Proof.Machine

/-- R135: the lengths the MAC accepts, 64 to 1522 bytes with the 4-byte frame check sequence. -/
def macAccepts (fcsGood : Bool) (frame : List Byte) : Bool :=
  fcsGood && decide (64 ≤ frame.length + 4) && decide (frame.length + 4 ≤ 1522)

/-- R137: the frame is a protocol frame of the part. -/
def State.isProtocolFrame (s : State) (frame : List Byte) : Bool :=
  beNat frame 12 2 == Config.vendorFrameType && (macAt frame 0 == s.station || macAt frame 0 == broadcastAddr)

/-- The common header of a protocol frame (10_frame_formats.md). -/
def parseFrame (frame : List Byte) : ProtocolFrame where
  broadcast := macAt frame 0 == broadcastAddr
  src := macAt frame 6
  version := byteAt frame 14
  tag := BitVec.ofNat 16 (beNat frame 16 2)
  bodyLen := beNat frame 18 2
  rest := frame.drop 20

/-- The kind code of a protocol frame. -/
def frameKind (frame : List Byte) : Nat := (byteAt frame 15).toNat

/-- R135, R136: a frame the MAC of a port accepts raises frames in; a Room port frame's source is looked up for presence. -/
def State.acceptFrame (s : State) (p : Port) (src : MacAddr) : State :=
  match p with
  | .upstream => s.count .upstreamIn
  | .room => (s.count .roomIn).presence src

/-- R137: a protocol frame is handed to the Management Unit or the Report Handler. -/
def State.takeOut (s : State) (p : Port) (frame : List Byte) : State :=
  match p with
  | .upstream => takeRequest (frameKind frame) (parseFrame frame) s
  | .room => deskFrameRule (frameKind frame) (parseFrame frame) s

/-- R135: a frame that has arrived at a port. No rule tests the port's own link here, and R94 has frames taken while the Room link is
down; that a port receives nothing over a down link is its MAC's (assumption log 3). -/
def frameArrivalEvent (p : Port) (fcsGood : Bool) (frame : List Byte) (s : State) : State :=
  if macAccepts fcsGood frame then
    let s1 := s.acceptFrame p (macAt frame 6)
    if s1.isProtocolFrame frame then s1.takeOut p frame else s1.classify p frame
  else s.count (droppedCounter p)

/-- A request of a known kind arriving at the Upstream port (R149). -/
def requestEvent (k : ReqKind) (r : ProtocolFrame) (s : State) : State :=
  takeRequest k.code r (s.acceptFrame .upstream r.src)

/-- A desk protocol frame of a kind arriving at the Room port (R97). -/
def deskFrameEvent (kind : Nat) (r : ProtocolFrame) (s : State) : State :=
  deskFrameRule kind r (s.acceptFrame .room r.src)

/-- R140: the hit of the entry that classifies a frame BOOT, where one does (assumption log 3). -/
def State.bootHit (s : State) (p : Port) (frame : List Byte) : State :=
  match s.decidingEntry p frame with
  | some i => if s.matchTable[i].action = .boot then s.hit i else s
  | none => s

/-- R43: a frame arriving at a port, classified BOOT, taken by the Boot Responder. -/
def bootDiscoveryEvent (p : Port) (frame : List Byte) (s : State) : State :=
  ((s.acceptFrame p (macAt frame 6)).bootHit p frame).bootEvent p frame

end Sys2Proof.Machine
end

