-- ==== Sys2Proof/Machine/Events.lean ====
section
/-! DEFINITION. The meaning of each command, one definition a row of spec/opcode_table.json, each over the event of the chapter that
owns it. No command faults or is refused. -/

namespace Sys2Proof.Machine

/-- What a command answers: always a next state. -/
abbrev Answer := Host.Outcome State Fault Refusal

/-! ## Management requests -/

/-- R154. -/
def execIdentify (r : ProtocolFrame) (s : State) : Answer := .next (requestEvent .identify r s)

/-- R6, R7. -/
def execDeskWrite (r : ProtocolFrame) (s : State) : Answer := .next (requestEvent .deskWrite r s)

/-- R9. -/
def execDeskRead (r : ProtocolFrame) (s : State) : Answer := .next (requestEvent .deskRead r s)

/-- R22, R23. -/
def execCircuitWrite (r : ProtocolFrame) (s : State) : Answer := .next (requestEvent .circuitWrite r s)

/-- R24. -/
def execCircuitRead (r : ProtocolFrame) (s : State) : Answer := .next (requestEvent .circuitRead r s)

/-- R141. -/
def execMatchWrite (r : ProtocolFrame) (s : State) : Answer := .next (requestEvent .matchWrite r s)

/-- R142. -/
def execMatchRead (r : ProtocolFrame) (s : State) : Answer := .next (requestEvent .matchRead r s)

/-- R142. -/
def execMatchLive (r : ProtocolFrame) (s : State) : Answer := .next (requestEvent .matchLive r s)

/-- R146. -/
def execSlotmapWrite (r : ProtocolFrame) (s : State) : Answer := .next (requestEvent .slotmapWrite r s)

/-- R146. -/
def execSlotmapRead (r : ProtocolFrame) (s : State) : Answer := .next (requestEvent .slotmapRead r s)

/-- R151. -/
def execStationWrite (r : ProtocolFrame) (s : State) : Answer := .next (requestEvent .stationWrite r s)

/-- R120 to R122. -/
def execRunStart (r : ProtocolFrame) (s : State) : Answer := .next (requestEvent .runStart r s)

/-- R124. -/
def execRunPause (r : ProtocolFrame) (s : State) : Answer := .next (requestEvent .runPause r s)

/-- R125. -/
def execRunResume (r : ProtocolFrame) (s : State) : Answer := .next (requestEvent .runResume r s)

/-- R130. -/
def execRunStop (r : ProtocolFrame) (s : State) : Answer := .next (requestEvent .runStop r s)

/-- R126. -/
def execEnqueue (r : ProtocolFrame) (s : State) : Answer := .next (requestEvent .enqueue r s)

/-- R132. -/
def execReportRelease (r : ProtocolFrame) (s : State) : Answer := .next (requestEvent .reportRelease r s)

/-- R62. -/
def execBlockOpen (r : ProtocolFrame) (s : State) : Answer := .next (requestEvent .blockOpen r s)

/-- R63. -/
def execBlockMore (r : ProtocolFrame) (s : State) : Answer := .next (requestEvent .blockMore r s)

/-- R75. -/
def execRingFlush (r : ProtocolFrame) (s : State) : Answer := .next (requestEvent .ringFlush r s)

/-- R116. -/
def execWantedRead (r : ProtocolFrame) (s : State) : Answer := .next (requestEvent .wantedRead r s)

/-- R116. -/
def execWantedTake (r : ProtocolFrame) (s : State) : Answer := .next (requestEvent .wantedTake r s)

/-- R155. -/
def execStatusRead (r : ProtocolFrame) (s : State) : Answer := .next (requestEvent .statusRead r s)

/-- R157. -/
def execCountersRead (r : ProtocolFrame) (s : State) : Answer := .next (requestEvent .countersRead r s)

/-- R159. -/
def execEventsClear (r : ProtocolFrame) (s : State) : Answer := .next (requestEvent .eventsClear r s)

/-- R161. -/
def execEngineReset (r : ProtocolFrame) (s : State) : Answer := .next (requestEvent .engineReset r s)

/-- R162. -/
def execFullReset (r : ProtocolFrame) (s : State) : Answer := .next (requestEvent .fullReset r s)

/-! ## Reset input, links and frames -/

/-- R118 and each chapter's power-on values. -/
def execPowerOn (s : State) : Answer := .next (powerOnEvent s)

/-- R134. -/
def execLinkDown (p : Port) (s : State) : Answer := .next (linkDownEvent p s)

/-- R134. -/
def execLinkUp (p : Port) (s : State) : Answer := .next (linkUpEvent p s)

/-- R135. -/
def execFrameArrival (p : Port) (fcsGood : Bool) (frame : List Byte) (s : State) : Answer :=
  .next (frameArrivalEvent p fcsGood frame s)

/-- R43. -/
def execBootDiscovery (p : Port) (frame : List Byte) (s : State) : Answer := .next (bootDiscoveryEvent p frame s)

/-- R98. -/
def execJoin (r : ProtocolFrame) (s : State) : Answer := .next (deskFrameEvent Kind.join r s)

/-- R103. -/
def execReport (r : ProtocolFrame) (s : State) : Answer := .next (deskFrameEvent Kind.report r s)

/-! ## Timers -/

/-- R13. -/
def execWakeTimeoutExpiry (d : DeskId) (s : State) : Answer := .next (wakeTimeoutEvent d s)

/-- R14. -/
def execDiscoveryTimeoutExpiry (d : DeskId) (s : State) : Answer := .next (discoveryTimeoutEvent d s)

/-- R14. -/
def execJoinTimeoutExpiry (d : DeskId) (s : State) : Answer := .next (joinTimeoutEvent d s)

/-- R16. -/
def execSilenceTimeoutExpiry (d : DeskId) (s : State) : Answer := .next (silenceTimeoutEvent d s)

/-- R26, R27. -/
def execDecayStep (c : CircuitId) (s : State) : Answer := .next (decayStepEvent c s)

/-- R28. -/
def execGapExpiry (c : CircuitId) (s : State) : Answer := .next (gapExpiryEvent c s)

/-- R127. -/
def execWindowEnd (s : State) : Answer := .next (windowEndEvent s)

/-! ## Egress -/

/-- R145. -/
def execRoomFrameOpportunity (s : State) : Answer := .next (roomOpportunityEvent s)

/-- R147. -/
def execUpstreamFrameOpportunity (s : State) : Answer := .next (upstreamOpportunityEvent s)

/-- R145, R147. -/
def execFrameSent (p : Port) (s : State) : Answer := .next (frameSentEvent p s)

/-! ## The part left alone -/

/-- R11, R13 to R16: the expiry command of a desk whose deadline has been reached in ACTIVE, by its state. -/
def State.dueDesk (s : State) (d : DeskId) : List Instr :=
  if s.deskDue d .waking then [.wakeTimeoutExpiry d]
  else if s.deskDue d .awake then [.discoveryTimeoutExpiry d]
  else if s.deskDue d .offered then [.joinTimeoutExpiry d]
  else if s.deskDue d .joined then [.silenceTimeoutExpiry d]
  else []

/-- R27, R28: the expiry commands of a circuit's timers reached in ACTIVE or PAUSED. -/
def State.dueCircuit (s : State) (c : CircuitId) : List Instr :=
  if s.run.inProgress then
    (if reached s.now (s.circuits[c]).decayTimer then [.decayStep c] else [])
      ++ (if reached s.now (s.circuits[c]).gapTimer then [.gapExpiry c] else [])
  else []

/-- R127: the window deadline reached. -/
def State.dueWindow (s : State) : List Instr :=
  match s.run with
  | .running _ _ deadline => if deadline ≤ s.now then [.windowEnd] else []
  | _ => []

/-- R145, R147: the frame opportunities that have arisen. -/
def State.dueEgress (s : State) : List Instr :=
  (if s.roomSource.isSome then [.roomFrameOpportunity] else [])
    ++ (if s.upstreamSource.isSome then [.upstreamFrameOpportunity] else [])

/-- The part's own events that have come due. DESIGN CHOICE (assumption log 5): their order among themselves, which the
manual leaves open. -/
def State.dueEvents (s : State) : List Instr :=
  (List.finRange 128).flatMap (fun d => s.dueDesk d) ++ (List.finRange 8).flatMap (fun c => s.dueCircuit c) ++ s.dueWindow
    ++ s.dueEgress

/-- DESIGN CHOICE (assumption log 5): with no command waiting, the part's own events that have come due are put into the queue;
when none has, 1 ms of the timebase passes. -/
def State.idle (s : State) : State :=
  if s.dueEvents.isEmpty then { s with now := s.now + 1 } else { s with pending := s.dueEvents }

end Sys2Proof.Machine
end

