-- ==== Sys2Proof/Machine/Dispatch.lean ====
section
/-! DEFINITION. The command table: one arm for each constructor of Instr. -/

namespace Sys2Proof.Machine

def exec (i : Instr) (s : State) : Host.Outcome State Fault Refusal :=
  match i with
  | .identify r => Sys2Proof.Machine.execIdentify r s
  | .deskWrite r => Sys2Proof.Machine.execDeskWrite r s
  | .deskRead r => Sys2Proof.Machine.execDeskRead r s
  | .circuitWrite r => Sys2Proof.Machine.execCircuitWrite r s
  | .circuitRead r => Sys2Proof.Machine.execCircuitRead r s
  | .matchWrite r => Sys2Proof.Machine.execMatchWrite r s
  | .matchRead r => Sys2Proof.Machine.execMatchRead r s
  | .matchLive r => Sys2Proof.Machine.execMatchLive r s
  | .slotmapWrite r => Sys2Proof.Machine.execSlotmapWrite r s
  | .slotmapRead r => Sys2Proof.Machine.execSlotmapRead r s
  | .stationWrite r => Sys2Proof.Machine.execStationWrite r s
  | .runStart r => Sys2Proof.Machine.execRunStart r s
  | .runPause r => Sys2Proof.Machine.execRunPause r s
  | .runResume r => Sys2Proof.Machine.execRunResume r s
  | .runStop r => Sys2Proof.Machine.execRunStop r s
  | .enqueue r => Sys2Proof.Machine.execEnqueue r s
  | .reportRelease r => Sys2Proof.Machine.execReportRelease r s
  | .blockOpen r => Sys2Proof.Machine.execBlockOpen r s
  | .blockMore r => Sys2Proof.Machine.execBlockMore r s
  | .ringFlush r => Sys2Proof.Machine.execRingFlush r s
  | .wantedRead r => Sys2Proof.Machine.execWantedRead r s
  | .wantedTake r => Sys2Proof.Machine.execWantedTake r s
  | .statusRead r => Sys2Proof.Machine.execStatusRead r s
  | .countersRead r => Sys2Proof.Machine.execCountersRead r s
  | .eventsClear r => Sys2Proof.Machine.execEventsClear r s
  | .engineReset r => Sys2Proof.Machine.execEngineReset r s
  | .fullReset r => Sys2Proof.Machine.execFullReset r s
  | .powerOn => Sys2Proof.Machine.execPowerOn s
  | .linkDown p => Sys2Proof.Machine.execLinkDown p s
  | .linkUp p => Sys2Proof.Machine.execLinkUp p s
  | .frameArrival p fcsGood frame => Sys2Proof.Machine.execFrameArrival p fcsGood frame s
  | .bootDiscovery p frame => Sys2Proof.Machine.execBootDiscovery p frame s
  | .join r => Sys2Proof.Machine.execJoin r s
  | .report r => Sys2Proof.Machine.execReport r s
  | .wakeTimeoutExpiry d => Sys2Proof.Machine.execWakeTimeoutExpiry d s
  | .discoveryTimeoutExpiry d => Sys2Proof.Machine.execDiscoveryTimeoutExpiry d s
  | .joinTimeoutExpiry d => Sys2Proof.Machine.execJoinTimeoutExpiry d s
  | .silenceTimeoutExpiry d => Sys2Proof.Machine.execSilenceTimeoutExpiry d s
  | .decayStep c => Sys2Proof.Machine.execDecayStep c s
  | .gapExpiry c => Sys2Proof.Machine.execGapExpiry c s
  | .windowEnd => Sys2Proof.Machine.execWindowEnd s
  | .roomFrameOpportunity => Sys2Proof.Machine.execRoomFrameOpportunity s
  | .upstreamFrameOpportunity => Sys2Proof.Machine.execUpstreamFrameOpportunity s
  | .frameSent p => Sys2Proof.Machine.execFrameSent p s

end Sys2Proof.Machine
end

