-- ==== Sys2Proof/Safety.lean ====
section
/-! DEFINITION. What the statements speak of: a request that reaches its kind's rule, the request of a kind, and the safe states of
the part, as invariants block by block (the bold sentences of R4, R29, R59, R68, R80, R89, R113, R118 among them). -/

namespace Sys2Proof.Machine

/-! ## Requests -/

/-- The command of a request kind. -/
def Instr.ofKind : ReqKind → ProtocolFrame → Instr
  | .identify => .identify
  | .deskWrite => .deskWrite
  | .deskRead => .deskRead
  | .circuitWrite => .circuitWrite
  | .circuitRead => .circuitRead
  | .matchWrite => .matchWrite
  | .matchRead => .matchRead
  | .matchLive => .matchLive
  | .slotmapWrite => .slotmapWrite
  | .slotmapRead => .slotmapRead
  | .stationWrite => .stationWrite
  | .runStart => .runStart
  | .runPause => .runPause
  | .runResume => .runResume
  | .runStop => .runStop
  | .enqueue => .enqueue
  | .reportRelease => .reportRelease
  | .blockOpen => .blockOpen
  | .blockMore => .blockMore
  | .ringFlush => .ringFlush
  | .wantedRead => .wantedRead
  | .wantedTake => .wantedTake
  | .statusRead => .statusRead
  | .countersRead => .countersRead
  | .eventsClear => .eventsClear
  | .engineReset => .engineReset
  | .fullReset => .fullReset

/-- A request of a kind that is not dropped (R149, R150) and passes checks 1 and 2 of R152: what is left to its kind's rule is its
body. -/
structure State.Admits (s : State) (k : ReqKind) (r : ProtocolFrame) : Prop where
  source : isGroup r.src = false
  destination : r.broadcast = false ∨ k = .identify
  station : s.stations = [] ∨ r.src ∈ s.stations
  version : r.version = 1
  fits : r.bodyLen ≤ r.rest.length

/-! ## What slots hold -/

/-- The fields BLOCK OPEN gave the block of a slot. -/
def Slot.header? : Slot → Option BlockHeader
  | .empty => none
  | .filling h _ => some h
  | .ready h => some h
  | .sent h _ _ _ => some h

/-- The pending set of a SENT slot; a slot in another state has none. -/
def Slot.waiting : Slot → List DeskId
  | .sent _ _ _ waiting => waiting
  | _ => []

/-- The stream position of a SENT slot. -/
def Slot.position? : Slot → Option Nat
  | .sent _ position _ _ => some position
  | _ => none

/-! ## Safe states -/

/-- The bounds of the queues and counters (R138, R144, R147, R89, R142, R151, R156). -/
structure State.QueuesBounded (s : State) : Prop where
  control : s.controlQueue.length ≤ 16
  reply : s.replyQueue.length ≤ 8
  toRoom : s.toRoom.length ≤ 64
  toUpstream : s.toUpstream.length ≤ 64
  repair : s.repairQueue.length ≤ 16
  stations : s.stations.length ≤ 4
  live : s.liveCount ≤ 32
  counters : ∀ k, s.counter k ≤ 4294967295

/-- The ranges that no other invariant gives: the surge weights (R2, R7), the fields of the circuits (R21, R22, R25) and of the match entries
(R139, R140, R141), the current pass (R61, R62) and the consecutive-repair count (R87). -/
structure State.FieldsInRange (s : State) : Prop where
  weight : ∀ d : DeskId, 1 ≤ s.desks[d].config.weight ∧ s.desks[d].config.weight ≤ 255
  circuit : ∀ c : CircuitId, s.circuits[c].budget ≤ 65535 ∧ s.circuits[c].decay ≤ 255 ∧ s.circuits[c].gap ≤ 10000 ∧
    s.circuits[c].load ≤ 65535
  entry : ∀ i : Fin 32, s.matchTable[i].offset ≤ 120 ∧ s.matchTable[i].hits ≤ 4294967295
  pass : s.currentPass ≤ 255
  repairs : s.repairCount ≤ 8

/-- Every block memory is in canonical form (assumption log 4). -/
def State.MemoryGood (s : State) : Prop := ∀ i : SlotId, Memory.wf s.blockMem[i] = true

/-- R4: no two desk records hold the same non-zero hardware address. -/
def State.AddressesDistinct (s : State) : Prop :=
  ∀ d e : DeskId, s.desks[d].config.address ≠ 0 → s.desks[d].config.address = s.desks[e].config.address → d = e

/-- R113: ranges in ascending order, each non-empty, pairwise separated by at least one block, every block below n. -/
def RangesGood (n : Nat) : List Range → Prop
  | [] => True
  | [a] => 0 < a.count ∧ a.stop ≤ n
  | a :: b :: t => 0 < a.count ∧ a.stop < b.first ∧ RangesGood n (b :: t)

/-- R113, R117: the Wanted List in its form, with at most 32 ranges; empty while no run parameter record is present. -/
def State.WantedGood (s : State) : Prop :=
  match s.run.info? with
  | some info => RangesGood info.params.blockCount s.wanted ∧ s.wanted.length ≤ 32
  | none => s.wanted = []

/-- R121: every numeric setting within its range. -/
structure RunParams.InRange (p : RunParams) : Prop where
  window : 1 ≤ p.window ∧ p.window ≤ 1440
  wakeTimeout : 1 ≤ p.wakeTimeout ∧ p.wakeTimeout ≤ 255
  discoveryTimeout : 1 ≤ p.discoveryTimeout ∧ p.discoveryTimeout ≤ 255
  joinTimeout : 1 ≤ p.joinTimeout ∧ p.joinTimeout ≤ 255
  silenceTimeout : 1 ≤ p.silenceTimeout ∧ p.silenceTimeout ≤ 60
  reportInterval : 1 ≤ p.reportInterval ∧ p.reportInterval ≤ 60
  wakeAttemptLimit : 1 ≤ p.wakeAttemptLimit ∧ p.wakeAttemptLimit ≤ 7
  pollLimit : 1 ≤ p.pollLimit ∧ p.pollLimit ≤ 7
  restartLimit : p.restartLimit ≤ 7
  repairBurst : 1 ≤ p.repairBurst ∧ p.repairBurst ≤ 8
  lagLimit : 100 ≤ p.lagLimit ∧ p.lagLimit ≤ 60000
  decayInterval : 10 ≤ p.decayInterval ∧ p.decayInterval ≤ 1000
  lowWater : 1 ≤ p.lowWater ∧ p.lowWater ≤ 63

/-- The states in which a desk's deadline timer is present (R11). -/
def DeskState.timed : DeskState → Bool
  | .waking | .awake | .offered | .joined => true
  | _ => false

/-- The night fields of a desk during or after a run with record p: each optional field is present exactly in its states (R3, R11),
the counts are within their limits (R3), an IDLE desk has the IDLE values (R3, R20), and a COMPLETE desk's last report gave zero
missing blocks and a good image (R107). -/
structure Night.Good (p : RunParams) (n : Night) : Prop where
  idle : n.state = .idle → n = Night.idle
  timer : n.timer.isSome = n.state.timed
  joined : n.joinedPos.isSome = (n.state == .joined)
  failed : n.failCause.isSome = (n.state == .failed)
  completion : n.completion.isSome = (n.state == .complete)
  attempts : n.wakeAttempts ≤ p.wakeAttemptLimit
  retry : n.state = .queued → n.wakeAttempts < p.wakeAttemptLimit
  polls : n.polls ≤ p.pollLimit
  restarts : n.restarts ≤ p.restartLimit
  lag : n.lagCount ≤ 255
  missing : ∀ m, n.missing = some m → m ≤ p.blockCount
  complete : n.state = .complete → n.missing = some 0 ∧ n.image = .good

/-- A deadline timer is held exactly in PAUSED (R12). -/
def DeskTimer.isHeld : DeskTimer → Bool
  | .held _ => true
  | .running _ => false

/-- The run, the desk records and the Wake Queue agree: the record is in range (R121); in STANDBY every desk has the IDLE values and in
CLOSED none is busy (R118, R19); night fields are good (R3); timers are held exactly in PAUSED (R12); and the Wake Queue holds
each desk id at most once, and holds a desk id exactly when that desk is QUEUED (R29). -/
structure State.DesksGood (s : State) : Prop where
  params : ∀ info, s.run.info? = some info → info.params.InRange
  night : ∀ info, s.run.info? = some info → ∀ d : DeskId, (s.desks[d].night).Good info.params
  standby : s.run = .standby → ∀ d : DeskId, s.desks[d].night = Night.idle
  closed : s.run.inProgress = false → ∀ d : DeskId, s.desks[d].night.state.busy = false
  held : s.run.inProgress = true → ∀ (d : DeskId) (t : DeskTimer), s.desks[d].night.timer = some t → t.isHeld = !s.run.active
  once : s.wakeQueue.Nodup
  exact : ∀ d : DeskId, d ∈ s.wakeQueue ↔ s.desks[d].night.state = .queued

/-- R118: the Control Queue is empty throughout STANDBY. -/
def State.ControlQuiet (s : State) : Prop := s.run = .standby → s.controlQueue = []

/-- R59: the slots that are not EMPTY form one run in ring order from tail: a SENT slots up to current, b READY slots up to fill, and
then at most one FILLING slot, at fill. -/
def State.Arranged (s : State) : Prop :=
  ∃ a b c : Nat, c ≤ 1 ∧ a + b + c ≤ 64 ∧ s.current = s.tail + Fin.ofNat 64 a ∧ s.fill = s.current + Fin.ofNat 64 b ∧
    ∀ k : Nat, k < 64 →
      (k < a → (s.slots[s.tail + Fin.ofNat 64 k]).isSent = true) ∧
      (a ≤ k → k < a + b → (s.slots[s.tail + Fin.ofNat 64 k]).isReady = true) ∧
      (a + b ≤ k → k < a + b + c → (s.slots[s.tail + Fin.ofNat 64 k]).isFilling = true) ∧
      (a + b + c ≤ k → s.slots[s.tail + Fin.ofNat 64 k] = .empty)

/-- The Block Ring and the Stream Engine agree. -/
structure State.RingGood (s : State) : Prop where
  /-- R118, R76, R95: outside ACTIVE and PAUSED nothing is held -/
  quiet : s.run.inProgress = false → s.slots = Vector.replicate 64 .empty ∧ s.repairQueue = [] ∧ s.transmission = none
  /-- R59 -/
  arranged : s.run.inProgress = true → s.Arranged
  /-- R62: a block held is within the image, of a legal length and of no later pass than the current one -/
  headers : ∀ (i : SlotId) (h : BlockHeader), (s.slots[i]).header? = some h →
    1 ≤ h.length ∧ h.length ≤ 8192 ∧ h.pass ≤ s.currentPass ∧ ∀ info, s.run.info? = some info → h.sequence < info.params.blockCount
  /-- R64: a block FILLING lacks a fragment -/
  partly : ∀ (i : SlotId) (h : BlockHeader) (m : Vector Bool 8), s.slots[i] = .filling h m →
    mapComplete m (fragmentCount h.length) = false
  /-- R89 -/
  repairsOnce : s.repairQueue.Nodup
  repairsSent : ∀ i ∈ s.repairQueue, (s.slots[i]).isSent = true
  /-- R82: the slot in transmission is SENT, and a fragment of it is still to be handed -/
  sending : ∀ t, s.transmission = some t → t.next < s.slotFragments t.slot
  /-- R92 to R94: a transmission is cut exactly while the engine may not offer it -/
  cut : ∀ t, s.transmission = some t → t.cut = !(s.run.active && s.roomLink) ∧ (t.cut = true → t.next = 0)
  /-- R68 -/
  pendingJoined : ∀ (i : SlotId) (d : DeskId), d ∈ (s.slots[i]).waiting → s.isJoined d = true
  pendingOnce : ∀ i : SlotId, (s.slots[i]).waiting.Nodup
  /-- R80, R81 -/
  positions : ∀ (i : SlotId) (p : Nat), (s.slots[i]).position? = some p → p < s.position ∨ (s.exhausted = true ∧ p = s.position)
  distinct : ∀ (i j : SlotId) (p : Nat), (s.slots[i]).position? = some p → (s.slots[j]).position? = some p → i = j
  limit : s.position ≤ 4294967295
  exhausted : s.exhausted = true → s.position = 4294967295

end Sys2Proof.Machine
end

