-- ==== Sys2Proof/Certificates/Slice0/Obligations.lean ====
section
/-! DEFINITION. The statements about the WB-128, each `def Obligations.<Name> : Prop`. A request's statements speak of a state
`s.count .upstreamIn`, the state in which its arrival has been counted (R135), and of `State.Admits`, which says that it reaches
its kind's rule. A frame command says that the port's MAC has received the frame, so no statement about one tests that port's link
(assumption log 3). Equations between whole states are their own frames: what they do not mention is unchanged. -/

open Sys2Proof Sys2Proof.Machine

/-! ## The queue of commands -/

/-- A step takes the command at the front of the queue and runs it with the queue's rest. -/
def Obligations.StepRunsFrontCommand : Prop :=
  ∀ (c : Instr) (rest : List Instr) (s : State), step { s with pending := c :: rest } = exec c { s with pending := rest }

/-- 95_what_each_step_holds.md: every command is taken whole. That none faults or is refused in any state is the model's choice (assumption
log 17, and log 6 for the events that cannot happen then), as is the queue of waiting commands, which each leaves alone (log 13). -/
def Obligations.ExecLeavesQueueAlone : Prop :=
  ∀ (c : Instr) (s : State), ∃ t, exec c s = .next t ∧ t.pending = s.pending

/-! ## How requests and frames reach their block -/

/-- R149, R150: a request of any kind from a group address, broadcast without being IDENTIFY, or from a source that a Station List
that is not empty does not hold, is dropped: only its arrival and the drop are counted. R152, checks 1, 2 and 4: an accepted
request of any kind with another version, a body length beyond the frame, or a body shorter than its kind requires is answered
BAD_FORMAT with the status alone, and changes nothing else. -/
def Obligations.RequestsDroppedOrRefused : Prop :=
  (∀ (k : ReqKind) (r : ProtocolFrame) (s : State),
     (isGroup r.src = true ∨ (r.broadcast = true ∧ k ≠ .identify) ∨ (s.stations ≠ [] ∧ r.src ∉ s.stations)) →
     exec (Instr.ofKind k r) s = .next ((s.count .upstreamIn).count .managementDrops)) ∧
  ∀ (k : ReqKind) (r : ProtocolFrame) (s : State), isGroup r.src = false →
    (r.broadcast = false ∨ k = .identify) → (s.stations = [] ∨ r.src ∈ s.stations) →
    (r.version ≠ 1 ∨ r.rest.length < r.bodyLen ∨ r.bodyLen < k.minBody) →
    exec (Instr.ofKind k r) s = .next ((s.count .upstreamIn).putReply (.response r.src k.code r.tag .badFormat []))

/-- R137: a frame of type 0x8F37 for the part that arrives at the Upstream port with a request kind is that request, and one that
arrives at the Room port with the kind JOIN or REPORT is that desk frame, with the fields the common header gives. How the
frame commands go together is the model's choice (assumption log 3). R149, R150, R152: a request of no known kind is dropped when it
is broadcast, from a group address or from outside a Station List that is not empty; of the others it is answered BAD_FORMAT for
another version or a body length beyond the frame, and else UNKNOWN_KIND. R164: a Room port frame of any kind but JOIN and REPORT is
ignored and counted after its presence effect. -/
def Obligations.FrameArrivalTakenOut : Prop :=
  (∀ (frame : List Byte) (s : State), 60 ≤ frame.length → frame.length ≤ 1518 → beNat frame 12 2 = 0x8F37 →
     (macAt frame 0 = s.station ∨ macAt frame 0 = broadcastAddr) →
     let r : ProtocolFrame :=
       { broadcast := macAt frame 0 == broadcastAddr, src := macAt frame 6, version := byteAt frame 14,
         tag := BitVec.ofNat 16 (beNat frame 16 2), bodyLen := beNat frame 18 2, rest := frame.drop 20 }
     (∀ k : ReqKind, (byteAt frame 15).toNat = k.code →
       exec (.frameArrival .upstream true frame) s = exec (Instr.ofKind k r) s) ∧
     (byteAt frame 15 = 0x41 → exec (.frameArrival .room true frame) s = exec (.join r) s) ∧
     (byteAt frame 15 = 0x44 → exec (.frameArrival .room true frame) s = exec (.report r) s)) ∧
  ∀ (frame : List Byte) (s : State), 60 ≤ frame.length → frame.length ≤ 1518 → beNat frame 12 2 = 0x8F37 →
    (((byteAt frame 15).toNat = 0 ∨ 0x1B < (byteAt frame 15).toNat) →
      let answered := fun status => exec (.frameArrival .upstream true frame) s = .next ((s.count .upstreamIn).putReply
        (.response (macAt frame 6) (byteAt frame 15).toNat (BitVec.ofNat 16 (beNat frame 16 2)) status []))
      ((macAt frame 0 = broadcastAddr ∨ (macAt frame 0 = s.station ∧
          (isGroup (macAt frame 6) = true ∨ (s.stations ≠ [] ∧ macAt frame 6 ∉ s.stations)))) →
        exec (.frameArrival .upstream true frame) s = .next ((s.count .upstreamIn).count .managementDrops)) ∧
      (macAt frame 0 = s.station → s.station ≠ broadcastAddr →
        isGroup (macAt frame 6) = false → (s.stations = [] ∨ macAt frame 6 ∈ s.stations) →
        ((byteAt frame 14 ≠ 1 ∨ frame.length < beNat frame 18 2 + 20) → answered .badFormat) ∧
        (byteAt frame 14 = 1 → beNat frame 18 2 + 20 ≤ frame.length → answered .unknownKind))) ∧
    ((macAt frame 0 = s.station ∨ macAt frame 0 = broadcastAddr) →
      byteAt frame 15 ≠ 0x41 → byteAt frame 15 ≠ 0x44 →
      exec (.frameArrival .room true frame) s =
        .next (((s.count .roomIn).presence (macAt frame 6)).count .reportsIgnored))

/-- R135, R140: a frame the MAC does not accept is dropped and counted; any other frame that is not taken out of the flow is
counted, looked up for presence at the Room port, and passed or dropped as the deciding match entry says. R138: a frame that
crosses enters the FIFO toward the other port at its tail, unless that port's link is down, when its arrival port's dropped
counter is raised, or the FIFO holds 64 frames, when the FIFO's overflow counter is raised. That the arrival of a frame classified BOOT
is the BOOT_DISCOVERY command of that frame is the model's choice (assumption log 3). -/
def Obligations.FrameArrivalClassified : Prop :=
  (∀ (p : Port) (good : Bool) (frame : List Byte) (s : State),
     ((good = false ∨ frame.length < 60 ∨ 1518 < frame.length) →
       exec (.frameArrival p good frame) s = .next (s.count (droppedCounter p))) ∧
     (good = true → 60 ≤ frame.length → frame.length ≤ 1518 →
       ¬ (beNat frame 12 2 = 0x8F37 ∧ (macAt frame 0 = s.station ∨ macAt frame 0 = broadcastAddr)) →
       let s1 := match p with
         | .upstream => s.count .upstreamIn
         | .room => (s.count .roomIn).presence (macAt frame 6)
       (s1.decidingEntry p frame = none → exec (.frameArrival p good frame) s = .next (s1.passThrough p frame)) ∧
       ∀ i : Fin 32, s1.decidingEntry p frame = some i →
         let e := s1.matchTable[i]
         let s2 := { s1 with matchTable := s1.matchTable.set i { e with hits := min (e.hits + 1) 4294967295 } }
         (e.action = .pass → exec (.frameArrival p good frame) s = .next (s2.passThrough p frame)) ∧
         (e.action = .drop → exec (.frameArrival p good frame) s = .next (s2.count (droppedCounter p))) ∧
         (e.action = .boot → exec (.frameArrival p good frame) s = exec (.bootDiscovery p frame) s))) ∧
  ∀ (frame : List Byte) (s : State),
    (s.roomLink = false → s.passThrough .upstream frame = s.count .upstreamDropped) ∧
    (s.roomLink = true → 64 ≤ s.toRoom.length → s.passThrough .upstream frame = s.count .toRoomOverflow) ∧
    (s.roomLink = true → s.toRoom.length < 64 → s.passThrough .upstream frame = { s with toRoom := s.toRoom ++ [frame] }) ∧
    (s.upstreamLink = false → s.passThrough .room frame = s.count .roomDropped) ∧
    (s.upstreamLink = true → 64 ≤ s.toUpstream.length → s.passThrough .room frame = s.count .toUpstreamOverflow) ∧
    (s.upstreamLink = true → s.toUpstream.length < 64 →
      s.passThrough .room frame = { s with toUpstream := s.toUpstream ++ [frame] })

/-- R139: when an entry matches a frame. -/
def Obligations.EntryMatchesFrame : Prop :=
  ∀ (e : MatchEntry) (p : Port) (frame : List Byte),
    (e.covers p frame = true ↔
      (e.port = .either ∨ (e.port = .room ∧ p = .room) ∨ (e.port = .upstream ∧ p = .upstream)) ∧
      ∀ i : Fin 8, (e.offset + i.val < frame.length → byteAt frame (e.offset + i.val) &&& e.mask[i] = e.key[i] &&& e.mask[i]) ∧
        (frame.length ≤ e.offset + i.val → e.mask[i] = 0)) ∧
    ((∀ i : Fin 8, e.mask[i] = 0) → (e.port = .either ∨ (e.port = .room ∧ p = .room) ∨ (e.port = .upstream ∧ p = .upstream)) →
      e.covers p frame = true)

/-- R140: the entry that decides a frame is the first, in ascending index order, of the entries below the live count that match it,
night-only entries passed over unless the run is ACTIVE or PAUSED. -/
def Obligations.FirstMatchDecides : Prop :=
  ∀ (p : Port) (frame : List Byte) (s : State),
    let live := fun i : Fin 32 => i.val < s.liveCount ∧ (s.matchTable[i].nightOnly = true → s.run.inProgress = true) ∧
      (s.matchTable[i]).covers p frame = true
    (∀ i : Fin 32, s.decidingEntry p frame = some i ↔ live i ∧ ∀ j : Fin 32, j < i → ¬ live j) ∧
    (s.decidingEntry p frame = none ↔ ∀ i : Fin 32, ¬ live i)

/-! ## Requests of the Management Unit and the tables -/

/-- R154: IDENTIFY is answered OK with the identity record and changes nothing; the record is the same after every reset. -/
def Obligations.IdentifyReturnsIdentity : Prop :=
  ∀ (r : ProtocolFrame) (s : State), s.Admits .identify r →
    (exec (.identify r) s = .next ((s.count .upstreamIn).putReply (.response r.src 0x01 r.tag .ok
      ([0x55, 0xE3, 0x01, 0x28, 0x41] ++ macBytes s.station ++ [0, 128, 0, 64, 0x20, 0, 0, 32, 0, 8, 0, 32, 0, 16])))) ∧
    ∀ c t, (c = .engineReset r ∨ c = .fullReset r ∨ c = .powerOn) → exec c s = .next t → t.station = s.station

/-- R7: a DESK WRITE that passes every check sets the named fields of its record and no other, a surge weight of 0 becoming 1, and is
answered OK, or CLAMPED for such a weight, with the record as written. R6: the first of the eight checks that it fails decides its
status, and the request is refused whole. -/
def Obligations.DeskWriteTakenOrRefused : Prop :=
  (∀ (r : ProtocolFrame) (s : State) (d : DeskId) (f : DeskFields), s.Admits .deskWrite r → 2 ≤ r.bodyLen →
     let b := bodyOf r
     (byteAt b 1).toNat < 32 → parseDeskFields (byteAt b 1) (b.drop 2) = some f → (byteAt b 0).toNat = d.val →
     s.desks[d].night.state.busy = false → (∀ c, f.circuit = some c → c < 8) → (∀ e, f.enrolled = some e → e < 2) →
     (∀ a, f.address = some a → isGroup a = false ∧ a ≠ s.station ∧
       (a ≠ 0 → ∀ e : DeskId, e ≠ d → s.desks[e].config.address ≠ a)) →
     let old := s.desks[d].config
     let new : DeskConfig :=
       { address := f.address.getD old.address
         circuit := f.circuit.elim old.circuit (Fin.ofNat 8)
         weight := f.weight.elim old.weight (max 1)
         lease := f.lease.getD old.lease
         enrolled := f.enrolled.elim old.enrolled (· == 1) }
     exec (.deskWrite r) s = .next (State.putReply
       { s.count .upstreamIn with desks := s.desks.set d { s.desks[d] with config := new } }
       (.response r.src 0x02 r.tag (if f.weight = some 0 then .clamped else .ok)
         (beBytes 1 d.val ++ macBytes new.address ++ beBytes 1 new.circuit.val ++ beBytes 1 new.weight ++ ipBytes new.lease
           ++ boolByte new.enrolled)))) ∧
  ∀ (r : ProtocolFrame) (s : State) (status : Status), s.Admits .deskWrite r →
    let b := bodyOf r
    let d : DeskId := Fin.ofNat 128 (byteAt b 0).toNat
    (if r.bodyLen < 2 ∨ 32 ≤ (byteAt b 1).toNat then some .badFormat
      else match parseDeskFields (byteAt b 1) (b.drop 2) with
        | none => some .badFormat
        | some f =>
          if 128 ≤ (byteAt b 0).toNat then some .badIndex
          else if s.desks[d].night.state.busy then some .deskBusy
          else if f.circuit.any (fun c => decide (8 ≤ c)) then some .badIndex
          else if f.enrolled.any (fun e => decide (2 ≤ e)) then some .badFormat
          else if f.address.any (fun a => isGroup a || a == s.station) then some .badFormat
          else if f.address.any (fun a => a != 0 && (List.finRange 128).any fun e => e != d && s.desks[e].config.address == a) then
            some .duplicateAddress
          else none) = some status →
    exec (.deskWrite r) s = .next ((s.count .upstreamIn).putReply (.response r.src 0x02 r.tag status []))

/-- R9: DESK READ reports the five configuration fields and every night field of its record, the deadline as the time that
remains, and changes nothing; an id above 127 is BAD_INDEX. -/
def Obligations.DeskReadReports : Prop :=
  ∀ (r : ProtocolFrame) (s : State), s.Admits .deskRead r → 1 ≤ r.bodyLen →
    let id := (byteAt (bodyOf r) 0).toNat
    (128 ≤ id → exec (.deskRead r) s = .next ((s.count .upstreamIn).putReply (.response r.src 0x03 r.tag .badIndex []))) ∧
    ∀ d : DeskId, d.val = id →
      let c := s.desks[d].config
      let n := s.desks[d].night
      let left := n.timer.map fun t => match t with
        | .running deadline => deadline - s.now
        | .held remaining => remaining
      exec (.deskRead r) s = .next ((s.count .upstreamIn).putReply (.response r.src 0x03 r.tag .ok
        (beBytes 1 id ++ (macBytes c.address ++ beBytes 1 c.circuit.val ++ beBytes 1 c.weight ++ ipBytes c.lease
            ++ boolByte c.enrolled)
          ++ (beBytes 1 n.state.code ++ optBytes 1 (n.failCause.map FailCause.code) ++ beBytes 1 n.wakeAttempts
            ++ beBytes 1 n.polls ++ beBytes 1 n.restarts ++ beBytes 1 n.lagCount ++ optBytes 4 n.joinedPos
            ++ optBytes 4 n.lastAck ++ optBytes 3 n.missing ++ beBytes 1 n.image.code ++ optBytes 4 left
            ++ optBytes 4 n.completion))))

/-- R22, R24: CIRCUIT WRITE sets the named fields of its circuit, a gap time limited to 10000 ms, and leaves the load and the gap
timer; CIRCUIT READ changes nothing; both answer with the record; each refusal leaves every circuit as it stood. -/
def Obligations.CircuitWriteAndRead : Prop :=
  ∀ (r : ProtocolFrame) (s : State),
    let b := bodyOf r
    let id := (byteAt b 0).toNat
    let record := fun x : Circuit => beBytes 2 x.budget ++ beBytes 1 x.decay ++ beBytes 2 x.gap ++ beBytes 2 x.load
      ++ boolByte x.gapTimer.isSome ++ optBytes 2 (x.gapTimer.map fun t => t - s.now)
    (s.Admits .circuitWrite r →
      ((r.bodyLen < 2 ∨ 8 ≤ (byteAt b 1).toNat ∨ parseCircuitFields (byteAt b 1) (b.drop 2) = none) →
        exec (.circuitWrite r) s = .next ((s.count .upstreamIn).putReply (.response r.src 0x04 r.tag .badFormat []))) ∧
      ∀ f, 2 ≤ r.bodyLen → (byteAt b 1).toNat < 8 → parseCircuitFields (byteAt b 1) (b.drop 2) = some f →
        (8 ≤ id → exec (.circuitWrite r) s = .next ((s.count .upstreamIn).putReply (.response r.src 0x04 r.tag .badIndex []))) ∧
        ∀ c : CircuitId, c.val = id →
          let old := s.circuits[c]
          let new : Circuit := { old with budget := f.budget.getD old.budget, decay := f.decay.getD old.decay,
                                          gap := f.gap.elim old.gap (min 10000) }
          exec (.circuitWrite r) s = .next (State.putReply { s.count .upstreamIn with circuits := s.circuits.set c new }
            (.response r.src 0x04 r.tag (if f.gap.any (fun g => decide (10000 < g)) then .clamped else .ok)
              (beBytes 1 id ++ record new)))) ∧
    (s.Admits .circuitRead r →
      (r.bodyLen < 1 → exec (.circuitRead r) s =
        .next ((s.count .upstreamIn).putReply (.response r.src 0x05 r.tag .badFormat []))) ∧
      (1 ≤ r.bodyLen → 8 ≤ id → exec (.circuitRead r) s = .next ((s.count .upstreamIn).putReply (.response r.src 0x05 r.tag .badIndex []))) ∧
      ∀ c : CircuitId, 1 ≤ r.bodyLen → c.val = id → exec (.circuitRead r) s =
        .next ((s.count .upstreamIn).putReply (.response r.src 0x05 r.tag .ok (beBytes 1 id ++ record s.circuits[c]))))

/-- R141: MATCH WRITE replaces an entry at or above the live count, its hit count becoming 0, in every run state; a refusal leaves
the table as it stood, and an entry below the live count is never written. R142: MATCH LIVE sets the live count to a value from 0
to 32 and nothing else; MATCH READ reports an entry with the live count and whether it is live, and changes nothing. -/
def Obligations.MatchTableRequests : Prop :=
  (∀ (r : ProtocolFrame) (s : State), s.Admits .matchWrite r →
     let b := bodyOf r
     let id := (byteAt b 0).toNat
     let refused := fun status => .next ((s.count .upstreamIn).putReply (.response r.src 0x06 r.tag status []))
     (r.bodyLen < 21 → exec (.matchWrite r) s = refused .badFormat) ∧ (21 ≤ r.bodyLen →
     (32 ≤ id → exec (.matchWrite r) s = refused .badIndex) ∧
     (id < 32 → id < s.liveCount → exec (.matchWrite r) s = refused .liveEntry) ∧
     (id < 32 → s.liveCount ≤ id →
       (2 < (byteAt b 1).toNat ∨ 120 < (byteAt b 2).toNat ∨ 1 < (byteAt b 19).toNat ∨ 2 < (byteAt b 20).toNat) →
       exec (.matchWrite r) s = refused .badFormat) ∧
     ∀ (i : Fin 32) (port : MatchPort) (action : MatchAction), i.val = id → s.liveCount ≤ id →
       (byteAt b 1).toNat = port.code → (byteAt b 2).toNat ≤ 120 → (byteAt b 19).toNat ≤ 1 →
       (byteAt b 20).toNat = action.code →
       let e : MatchEntry :=
         { port := port, offset := (byteAt b 2).toNat, key := Vector.ofFn fun j => byteAt b (3 + j.val)
           mask := Vector.ofFn fun j => byteAt b (11 + j.val), nightOnly := byteAt b 19 == 1, action := action, hits := 0 }
       exec (.matchWrite r) s = .next (State.putReply { s.count .upstreamIn with matchTable := s.matchTable.set i e }
         (.response r.src 0x06 r.tag .ok (beBytes 1 id ++ e.bytes))))) ∧
  ∀ (r : ProtocolFrame) (s : State), 1 ≤ r.bodyLen →
    let n := (byteAt (bodyOf r) 0).toNat
    (s.Admits .matchLive r →
      (32 < n → exec (.matchLive r) s = .next ((s.count .upstreamIn).putReply (.response r.src 0x08 r.tag .badIndex []))) ∧
      (n ≤ 32 → exec (.matchLive r) s = .next (State.putReply { s.count .upstreamIn with liveCount := n }
        (.response r.src 0x08 r.tag .ok (beBytes 1 n))))) ∧
    (s.Admits .matchRead r →
      (32 ≤ n → exec (.matchRead r) s = .next ((s.count .upstreamIn).putReply (.response r.src 0x07 r.tag .badIndex []))) ∧
      ∀ i : Fin 32, i.val = n →
        let e := s.matchTable[i]
        exec (.matchRead r) s = .next ((s.count .upstreamIn).putReply (.response r.src 0x07 r.tag .ok
          (beBytes 1 n ++ (beBytes 1 e.port.code ++ beBytes 1 e.offset ++ e.key.toList ++ e.mask.toList ++ boolByte e.nightOnly
              ++ beBytes 1 e.action.code ++ beBytes 4 e.hits)
            ++ beBytes 1 s.liveCount ++ boolByte (decide (n < s.liveCount))))))

/-- R146: SLOTMAP WRITE, in STANDBY, replaces the map whole and sets the egress position to 0; outside STANDBY it is WRONG_STATE and an
entry that names none of the three sources is BAD_FORMAT. SLOTMAP READ reports the map and the position. R151: STATION WRITE
replaces the Station List whole by 0 to 4 distinct addresses, none zero, a group address or the part's own; anything else is
BAD_FORMAT and leaves the list as it stood. -/
def Obligations.SlotMapAndStationRequests : Prop :=
  (∀ (r : ProtocolFrame) (s : State),
     let b := bodyOf r
     (s.Admits .slotmapWrite r → 16 ≤ r.bodyLen →
       (s.run ≠ .standby → exec (.slotmapWrite r) s =
         .next ((s.count .upstreamIn).putReply (.response r.src 0x09 r.tag .wrongState []))) ∧
       (s.run = .standby → (∃ i : Fin 16, 2 < (byteAt b i.val).toNat) → exec (.slotmapWrite r) s =
         .next ((s.count .upstreamIn).putReply (.response r.src 0x09 r.tag .badFormat []))) ∧
       ∀ m : Vector Source 16, s.run = .standby → (∀ i : Fin 16, (byteAt b i.val).toNat = (m[i]).code) →
         exec (.slotmapWrite r) s = .next (State.putReply { s.count .upstreamIn with slotMap := m, egressPos := 0 }
           (.response r.src 0x09 r.tag .ok (b.take 16)))) ∧
     (s.Admits .slotmapRead r →
       exec (.slotmapRead r) s = .next ((s.count .upstreamIn).putReply (.response r.src 0x0A r.tag .ok
         (s.slotMap.toList.map (fun x => BitVec.ofNat 8 x.code) ++ beBytes 1 s.egressPos.val))))) ∧
  ∀ (r : ProtocolFrame) (s : State), s.Admits .stationWrite r →
    let b := bodyOf r
    let n := (byteAt b 0).toNat
    let l := (List.range n).map fun i => macAt b (1 + 6 * i)
    ((r.bodyLen < 1 ∨ r.bodyLen < 1 + 6 * n ∨ 4 < n ∨ (∃ a ∈ l, a = 0 ∨ isGroup a = true ∨ a = s.station) ∨ ¬ l.Nodup) →
      exec (.stationWrite r) s = .next ((s.count .upstreamIn).putReply (.response r.src 0x0B r.tag .badFormat []))) ∧
    (1 + 6 * n ≤ r.bodyLen → n ≤ 4 → (∀ a ∈ l, a ≠ 0 ∧ isGroup a = false ∧ a ≠ s.station) → l.Nodup →
      exec (.stationWrite r) s = .next (State.putReply { s.count .upstreamIn with stations := l }
        (.response r.src 0x0B r.tag .ok (beBytes 1 n ++ l.flatMap macBytes))))

/-- R155: STATUS READ is answered OK with the values of its table, and changes nothing. R157: COUNTERS READ is answered OK with every
counter as it stands, its own arrival included; a clear option of yes then sets every counter to 0, and any other value but no is
BAD_FORMAT. R159: EVENTS CLEAR clears the flags its set names and no other, and answers OK with the flags after the clear; a set
that names a kind other than the seven is BAD_FORMAT. That a clearing COUNTERS READ puts its response after the clear, so that a drop of
that response is counted, is DEDUCED from R157 and R153 (assumption log 9). -/
def Obligations.StatusCountersAndEventFlags : Prop :=
  (∀ (r : ProtocolFrame) (s : State), s.Admits .statusRead r →
     let number := fun x : DeskState => s.desks.toList.countP fun d => d.night.state == x
     let left := match s.run with
       | .standby => 0
       | .running _ _ deadline => deadline - s.now
       | .closed _ _ left => left
     let cause := match s.run with
       | .closed _ cause _ => some cause.code
       | _ => none
     exec (.statusRead r) s = .next ((s.count .upstreamIn).putReply (.response r.src 0x17 r.tag .ok
       (beBytes 1 s.run.code ++ optBytes 1 cause ++ beBytes 4 left ++ beBytes 1 s.tail.val ++ beBytes 1 s.current.val
         ++ beBytes 1 s.fill.val ++ beBytes 1 (s.slots.toList.countP Slot.held)
         ++ boolByte ((s.current == s.fill && s.slots.toList.all fun x => !x.isReady) || s.exhausted)
         ++ beBytes 1 s.currentPass ++ beBytes 4 s.position ++ beBytes 1 s.wakeQueue.length ++ beBytes 1 s.repairQueue.length
         ++ beBytes 1 s.wanted.length ++ beBytes 1 s.flags.toNat
         ++ (beBytes 1 (number .idle) ++ beBytes 1 (number .queued) ++ beBytes 1 (number .waking) ++ beBytes 1 (number .awake)
           ++ beBytes 1 (number .offered) ++ beBytes 1 (number .joined) ++ beBytes 1 (number .complete)
           ++ beBytes 1 (number .failed)))))) ∧
  (∀ (r : ProtocolFrame) (s : State), s.Admits .countersRead r → 1 ≤ r.bodyLen →
     let s1 := s.count .upstreamIn
     let clear := byteAt (bodyOf r) 0
     let values := s1.counters.toList.flatMap (beBytes 4)
     (clear = 0 → exec (.countersRead r) s = .next (s1.putReply (.response r.src 0x18 r.tag .ok values))) ∧
     (clear = 1 → exec (.countersRead r) s =
       .next (State.putReply { s1 with counters := Vector.replicate 22 0 } (.response r.src 0x18 r.tag .ok values))) ∧
     (clear ≠ 0 → clear ≠ 1 → exec (.countersRead r) s = .next (s1.putReply (.response r.src 0x18 r.tag .badFormat [])))) ∧
  ∀ (r : ProtocolFrame) (s : State), s.Admits .eventsClear r → 1 ≤ r.bodyLen →
    let set := byteAt (bodyOf r) 0
    (set.getLsbD 7 = true →
      exec (.eventsClear r) s = .next ((s.count .upstreamIn).putReply (.response r.src 0x19 r.tag .badFormat []))) ∧
    (set.getLsbD 7 = false → ∃ flags : EventSet,
      (∀ k < 7, flags.getLsbD k = (s.flags.getLsbD k && !set.getLsbD k)) ∧
      exec (.eventsClear r) s = .next (State.putReply { s.count .upstreamIn with flags := flags }
        (.response r.src 0x19 r.tag .ok (beBytes 1 flags.toNat))))

/-- R161: ENGINE RESET gives each block the values of its table and keeps the rest. That it counts the discard of a block still
FILLING is DEDUCED from R66 (assumption log 7). -/
def Obligations.EngineResetValues : Prop :=
  ∀ (r : ProtocolFrame) (s : State), s.Admits .engineReset r →
    let s1 := s.count .upstreamIn
    exec (.engineReset r) s = .next (State.putReply
      { s1 with
        desks := Vector.ofFn fun d => { s.desks[d] with night := Night.idle }
        circuits := Vector.ofFn fun c => { s.circuits[c] with load := 0, gapTimer := none, decayTimer := none }
        wakeQueue := [], slots := Vector.replicate 64 .empty, tail := 0, current := 0, fill := 0, currentPass := 0
        position := 0, exhausted := false, repairQueue := [], transmission := none, repairCount := 0, wanted := []
        controlQueue := [], run := .standby, flags := 0, noticeEnable := 0
        counters := (if s.anyFilling then s1.count .discards else s1).counters }
      (.response r.src 0x1A r.tag .ok []))

/-- R162: FULL RESET gives every block its power-on values, less the Station List, the link states and the frames the MACs are sending,
and its response is the first frame of the emptied reply queue. Power-on keeps none of these. The equations also fix what
is the model's own: the timebase goes on through a FULL RESET and is 0 at power-on (DESIGN CHOICE, assumption log 2), block memory
reads 0 after either (DESIGN CHOICE, log 4), no MAC is sending at power-on (DEDUCED, log 12), and the queue of waiting commands
is kept (DESIGN CHOICE, log 13). -/
def Obligations.FullResetAndPowerOnValues : Prop :=
  (∀ (r : ProtocolFrame) (s : State), s.Admits .fullReset r →
    exec (.fullReset r) s = .next
      { State.reset with
        now := s.now, station := s.station, stations := s.stations, upstreamLink := s.upstreamLink, roomLink := s.roomLink
        upstreamSending := s.upstreamSending, roomSending := s.roomSending, pending := s.pending
        replyQueue := [.response r.src 0x1B r.tag .ok []] }) ∧
  ∀ s : State, exec .powerOn s = .next { State.reset with station := s.station, pending := s.pending }

/-! ## The night run -/

/-- R121: the record as taken: a 0 in the three settings with a default is the default, and every numeric setting is brought into its
range; every other field is as carried; and the start is clamped exactly when a setting that was not such a 0 was out of range. -/
def Obligations.RunParamsBroughtIntoRange : Prop :=
  ∀ b : List Byte,
    let p := parseRunParams b
    let q := takenParams b
    q.InRange ∧
    (q.runTag = p.runTag ∧ q.blockCount = p.blockCount ∧ q.imageCheck = p.imageCheck ∧ q.streamGroup = p.streamGroup ∧
      q.bootServer = p.bootServer ∧ q.leaseTime = p.leaseTime ∧ q.subnetMask = p.subnetMask ∧ q.router = p.router ∧
      q.loaderName = p.loaderName ∧ q.marker = p.marker ∧ q.afterAction = p.afterAction ∧ q.noticeEnable = p.noticeEnable) ∧
    (p.repairBurst = 0 → q.repairBurst = 4) ∧ (p.decayInterval = 0 → q.decayInterval = 100) ∧ (p.lowWater = 0 → q.lowWater = 16) ∧
    (p.repairBurst ≠ 0 → q.repairBurst = max 1 (min 8 p.repairBurst)) ∧
    (p.decayInterval ≠ 0 → q.decayInterval = max 10 (min 1000 p.decayInterval)) ∧
    (p.lowWater ≠ 0 → q.lowWater = max 1 (min 63 p.lowWater)) ∧
    (q.window = max 1 (min 1440 p.window) ∧ q.wakeTimeout = max 1 (min 255 p.wakeTimeout) ∧
      q.discoveryTimeout = max 1 (min 255 p.discoveryTimeout) ∧ q.joinTimeout = max 1 (min 255 p.joinTimeout) ∧
      q.silenceTimeout = max 1 (min 60 p.silenceTimeout) ∧ q.reportInterval = max 1 (min 60 p.reportInterval) ∧
      q.wakeAttemptLimit = max 1 (min 7 p.wakeAttemptLimit) ∧ q.pollLimit = max 1 (min 7 p.pollLimit) ∧
      q.restartLimit = min 7 p.restartLimit ∧ q.lagLimit = max 100 (min 60000 p.lagLimit)) ∧
    (anyClamped b = false ↔
      ({ p with repairBurst := if p.repairBurst = 0 then 4 else p.repairBurst
                decayInterval := if p.decayInterval = 0 then 100 else p.decayInterval
                lowWater := if p.lowWater = 0 then 16 else p.lowWater } : RunParams).InRange)

/-- R122: a RUN START taken in STANDBY makes the changes of its steps 1 to 6 and queues the enrolled used records, then one scan runs
with what follows it, and the response carries the record as taken and the number of desks queued. That the response also follows
a RUN_CLOSED notice of the same event is DEDUCED (assumption log 8). -/
def Obligations.RunStartTaken : Prop :=
  ∀ (r : ProtocolFrame) (s : State), s.Admits .runStart r →
    let b := bodyOf r
    let enrols := fun d : DeskId => s.desks[d].config.enrolled && s.desks[d].config.address != 0
    51 + (byteAt b 49).toNat + (byteAt b 50).toNat ≤ b.length → s.run = .standby → beNat b 2 3 ≠ 0 →
    isGroup (macAt b 9) = true → macAt b 9 ≠ broadcastAddr → (byteAt b 49).toNat ≤ 64 → (byteAt b 50).toNat ≤ 16 →
    (byteAt b 31).toNat ≤ 2 → (byteAt b 32).getLsbD 7 = false → (∃ d, enrols d = true) →
    let p := takenParams b
    let started := (List.finRange 128).filter enrols
    let s1 : State := { s.count .upstreamIn with
      run := .running false { params := p, owner := r.src, start := s.now } (s.now + p.window * 60000)
      position := 0, exhausted := false, repairCount := 0, currentPass := 0, tail := s.fill, current := s.fill
      circuits := Vector.ofFn fun c =>
        { s.circuits[c] with load := 0, gapTimer := none, decayTimer := some (s.now + p.decayInterval) }
      desks := Vector.ofFn fun d =>
        if enrols d then { s.desks[d] with night := { Night.idle with state := .queued } } else s.desks[d]
      wakeQueue := s.wakeQueue ++ started
      noticeEnable := p.noticeEnable }
    exec (.runStart r) s = .next ((State.scanAndSettle (s.count .upstreamIn) s1).putReply
      (.response r.src 0x0C r.tag (if anyClamped b then .clamped else .ok) (p.bytes ++ beBytes 1 started.length)))

/-- R120: the first of the eight checks that a RUN START fails decides its status, and the request changes nothing. The other requests
of Run Control and RING FLUSH, in a run state in which they are not taken, are refused WRONG_STATE and change nothing (R118's
table, R75; ENQUEUE by R126). -/
def Obligations.RunRequestsRefused : Prop :=
  (∀ (r : ProtocolFrame) (s : State) (status : Status), s.Admits .runStart r →
     let b := bodyOf r
     (if b.length < 51 + (byteAt b 49).toNat + (byteAt b 50).toNat then some .badFormat
       else if s.run.code = 3 then some .reportHeld
       else if s.run.inProgress then some .wrongState
       else if beNat b 2 3 = 0 then some .badFormat
       else if isGroup (macAt b 9) = false ∨ macAt b 9 = broadcastAddr then some .badFormat
       else if 64 < (byteAt b 49).toNat ∨ 16 < (byteAt b 50).toNat then some .badFormat
       else if 2 < (byteAt b 31).toNat ∨ (byteAt b 32).getLsbD 7 = true then some .badFormat
       else if s.desks.toList.all (fun d => !d.config.enrolled || d.config.address == 0) then some .noDesks
       else none) = some status →
     exec (.runStart r) s = .next ((s.count .upstreamIn).putReply (.response r.src 0x0C r.tag status []))) ∧
  ∀ (k : ReqKind) (r : ProtocolFrame) (s : State), s.Admits k r → k.minBody ≤ r.bodyLen →
    ((k = .runPause ∧ s.run.code ≠ 1) ∨ (k = .runResume ∧ s.run.code ≠ 2) ∨
      ((k = .runStop ∨ k = .enqueue) ∧ s.run.code ≠ 1 ∧ s.run.code ≠ 2) ∨ (k = .reportRelease ∧ s.run.code ≠ 3) ∨
      (k = .ringFlush ∧ s.run.code ≠ 2)) →
    exec (Instr.ofKind k r) s = .next ((s.count .upstreamIn).putReply (.response r.src k.code r.tag .wrongState []))

/-- R124, R125: RUN PAUSE in ACTIVE holds every present deadline and cuts a transmission in progress; RUN RESUME in PAUSED makes every
held time a deadline again, clears the cut when the Room link is up, and runs one scan before its response. That the response
also follows a RUN_CLOSED notice of the same event is DEDUCED (assumption log 8). -/
def Obligations.PauseHoldsAndResumeReleases : Prop :=
  ∀ (r : ProtocolFrame) (s : State) (info : RunInfo) (deadline : Nat),
    (s.Admits .runPause r → s.run = .running false info deadline →
      exec (.runPause r) s = .next (State.putReply
        { s.count .upstreamIn with
          run := .running true info deadline
          desks := Vector.ofFn fun d => { s.desks[d] with night := { s.desks[d].night with
            timer := s.desks[d].night.timer.map fun t => match t with
              | .running x => .held (x - s.now)
              | .held x => .held x } }
          transmission := s.transmission.map fun t => if t.cut then t else { t with cut := true, next := 0 } }
        (.response r.src 0x0D r.tag .ok []))) ∧
    (s.Admits .runResume r → s.run = .running true info deadline →
      exec (.runResume r) s = .next ((State.scanAndSettle (s.count .upstreamIn)
        { s.count .upstreamIn with
          run := .running false info deadline
          desks := Vector.ofFn fun d => { s.desks[d] with night := { s.desks[d].night with
            timer := s.desks[d].night.timer.map fun t => match t with
              | .running x => .running x
              | .held x => .running (s.now + x) } }
          transmission := if s.roomLink then s.transmission.map fun t => { t with cut := false } else s.transmission }).putReply
        (.response r.src 0x0E r.tag .ok [])))

/-- R126: an ENQUEUE taken in ACTIVE or PAUSED resets and queues, in ascending order, each record of its range that is used and IDLE or
FAILED, passes over the others, and answers with the number queued; a scan follows when it queued any. Ids above 127 and a first
id above the last are refused. -/
def Obligations.EnqueueQueuesDesks : Prop :=
  ∀ (r : ProtocolFrame) (s : State), s.Admits .enqueue r →
    let lo := (byteAt (bodyOf r) 0).toNat
    let hi := (byteAt (bodyOf r) 1).toNat
    let taken := fun d : DeskId => decide (lo ≤ d.val) && decide (d.val ≤ hi) && s.desks[d].config.address != 0
      && (s.desks[d].night.state == .idle || s.desks[d].night.state == .failed)
    let ds := (List.finRange 128).filter taken
    let answer := fun t : State => .next (t.putReply (.response r.src 0x10 r.tag .ok (beBytes 1 ds.length)))
    let s1 := s.count .upstreamIn
    let s2 : State := { s1 with
      desks := Vector.ofFn fun d => if taken d then { s.desks[d] with night := { Night.idle with state := .queued } } else s.desks[d]
      wakeQueue := s.wakeQueue ++ ds }
    let refused := fun status => .next (s1.putReply (.response r.src 0x10 r.tag status []))
    (r.bodyLen < 2 → exec (.enqueue r) s = refused .badFormat) ∧
    (2 ≤ r.bodyLen → s.run.inProgress = false → exec (.enqueue r) s = refused .wrongState) ∧
    (2 ≤ r.bodyLen → s.run.inProgress = true →
      ((127 < lo ∨ 127 < hi) → exec (.enqueue r) s = refused .badIndex) ∧
      (lo ≤ 127 → hi < lo → exec (.enqueue r) s = refused .badFormat) ∧
      (lo ≤ hi → hi ≤ 127 → ds = [] → exec (.enqueue r) s = answer s1) ∧
      (lo ≤ hi → hi ≤ 127 → ds ≠ [] → exec (.enqueue r) s = answer (State.scanAndSettle s1 s2)))

/-- R130, R127: RUN STOP in ACTIVE or PAUSED is answered OK with the close cause, ahead of what the close with cause STOPPED puts into the
reply queue; at the window deadline, in ACTIVE or PAUSED, the run closes with cause WINDOW_END.
R129: a close in ACTIVE or PAUSED: its steps, with RUN_CLOSED raised at the end with the close cause as its datum; everything its
steps do not name keeps its value. That a block still FILLING raises the discard counter is DEDUCED from R66 (assumption log 7). -/
def Obligations.StopAndWindowCloseTheRun : Prop :=
  (∀ (s : State) (paused : Bool) (info : RunInfo) (deadline : Nat), s.run = .running paused info deadline →
     (∀ r, s.Admits .runStop r → exec (.runStop r) s =
       .next (State.closeRun ((s.count .upstreamIn).putReply (.response r.src 0x0F r.tag .ok [0])) .stopped)) ∧
     (deadline ≤ s.now → exec .windowEnd s = .next (s.closeRun .windowEnd))) ∧
  ∀ (s : State) (cause : CloseCause) (paused : Bool) (info : RunInfo) (deadline : Nat), s.run = .running paused info deadline →
    s.closeRun cause = State.raise
      { s with
        desks := Vector.ofFn fun d =>
          if s.desks[d].night.state.busy then
            { s.desks[d] with night :=
              { s.desks[d].night with state := .failed, failCause := some .runEnded, timer := none, joinedPos := none } }
          else s.desks[d]
        wakeQueue := []
        circuits := Vector.ofFn fun c => { s.circuits[c] with gapTimer := none, decayTimer := none }
        repairQueue := [], transmission := none, repairCount := 0, slots := Vector.replicate 64 .empty
        counters := (if s.anyFilling then s.count .discards else s).counters
        controlQueue := [], run := .closed info cause (deadline - s.now) }
      .runClosed (beBytes 1 cause.code)

/-- R132: REPORT RELEASE in CLOSED brings every desk to its IDLE values, empties the Wanted List and the Control Queue, sets every load to 0
and the run to STANDBY with nothing of the run present, and keeps the rest; in any other state it is refused WRONG_STATE. -/
def Obligations.ReportReleaseClears : Prop :=
  ∀ (r : ProtocolFrame) (s : State), s.Admits .reportRelease r →
    (s.run.code ≠ 3 → exec (.reportRelease r) s =
      .next ((s.count .upstreamIn).putReply (.response r.src 0x11 r.tag .wrongState []))) ∧
    ∀ (info : RunInfo) (cause : CloseCause) (left : Nat), s.run = .closed info cause left →
    exec (.reportRelease r) s = .next (State.putReply
      { s.count .upstreamIn with
        desks := Vector.ofFn fun d =>
          if s.desks[d].night.state = .idle then s.desks[d] else { s.desks[d] with night := Night.idle }
        circuits := Vector.ofFn fun c => { s.circuits[c] with load := 0, gapTimer := none, decayTimer := none }
        wanted := [], controlQueue := [], noticeEnable := 0, run := .standby }
      (.response r.src 0x11 r.tag .ok []))

/-! ## The Block Ring -/

/-- R62, checks 1 to 7: the first check that a BLOCK OPEN fails decides its status, and the ring stands as it stood. -/
def Obligations.BlockOpenRefused : Prop :=
  ∀ (r : ProtocolFrame) (s : State) (status : Status), s.Admits .blockOpen r →
    let b := bodyOf r
    let h := parseBlockHeader b
    let i := (byteAt b 11).toNat
    (if r.bodyLen < 12 then some .badFormat else match s.run with
      | .running _ info _ =>
        if info.params.blockCount ≤ h.sequence then some .badIndex
        else if h.length = 0 ∨ 8192 < h.length then some .badLength
        else if h.pass < s.currentPass then some .stalePass
        else if (h.length + 1023) / 1024 ≤ i then some .badFormat
        else if r.bodyLen - 12 ≠ (if i + 1 < (h.length + 1023) / 1024 then 1024 else h.length - 1024 * i) then some .badLength
        else none
      | _ => some .wrongState) = some status →
    exec (.blockOpen r) s = .next ((s.count .upstreamIn).putReply (.response r.src 0x12 r.tag status []))

/-- R62, steps 1 to 5, with a slot free: a block FILLING is discarded, the slot at fill becomes FILLING with the request's header, a higher
pass raises PASS_BEGIN, and the fragment is taken (R64), its answer following a RING_SPACE (R77). R72, R73: with 64 slots held and
none FILLING it retires the tail by force when it is SENT, not in transmission, and its first transmission is at least the lag
limit old, and takes the freed slot; otherwise it is refused RING_FULL and the ring stands as it stood. -/
def Obligations.BlockOpenTakesSlot : Prop :=
  (∀ (r : ProtocolFrame) (s : State) (paused : Bool) (info : RunInfo) (deadline : Nat) (i : Fin 8), s.Admits .blockOpen r →
     12 ≤ r.bodyLen → s.run = .running paused info deadline →
     let b := bodyOf r
     let h := parseBlockHeader b
     h.sequence < info.params.blockCount → 1 ≤ h.length → h.length ≤ 8192 → s.currentPass ≤ h.pass →
     (byteAt b 11).toNat = i.val → i.val < fragmentCount h.length → r.bodyLen - 12 = fragmentLength h.length i.val →
     let s1 := s.count .upstreamIn
     let s2 := if s.anyFilling then State.count { s1 with slots := s.slots.map fun x => if x.isFilling then .empty else x } .discards
       else s1
     s2.slots.toList.countP Slot.held < 64 →
     let map := Vector.replicate 8 false
     let s3 := { s2 with slots := s2.slots.set s.fill (.filling h map) }
     let s4 := if s.currentPass < h.pass then State.raise { s3 with currentPass := h.pass } .passBegin (beBytes 1 h.pass) else s3
     exec (.blockOpen r) s = .next (ringAnswer s1 r .blockOpen (s4.takeFragment h map i (b.drop 12)))) ∧
  ∀ (r : ProtocolFrame) (s : State) (paused : Bool) (info : RunInfo) (deadline : Nat) (i : Fin 8), s.Admits .blockOpen r →
    12 ≤ r.bodyLen → s.run = .running paused info deadline →
    let b := bodyOf r
    let h := parseBlockHeader b
    h.sequence < info.params.blockCount → 1 ≤ h.length → h.length ≤ 8192 → s.currentPass ≤ h.pass →
    (byteAt b 11).toNat = i.val → i.val < fragmentCount h.length → r.bodyLen - 12 = fragmentLength h.length i.val →
    s.slots.toList.countP Slot.held = 64 → s.anyFilling = false →
    let s1 := s.count .upstreamIn
    let frees := fun (x : Slot) => match x with
      | .sent _ _ firstSend _ => s.transmission.all (fun t => t.slot != s.tail) && decide (info.params.lagLimit ≤ s.now - firstSend)
      | _ => false
    (frees s.slots[s.tail] = false →
      exec (.blockOpen r) s = .next (s1.putReply (.response r.src 0x12 r.tag .ringFull []))) ∧
    ∀ g position firstSend waiting, s.slots[s.tail] = .sent g position firstSend waiting → frees s.slots[s.tail] = true →
      let map := Vector.replicate 8 false
      let s2 := State.retire { s1 with
        desks := Vector.ofFn fun d => if waiting.contains d then
          { s.desks[d] with night := { s.desks[d].night with lagCount := min (s.desks[d].night.lagCount + 1) 255 } } else s.desks[d]
        wanted := insertRange info.params.blockCount s.wanted g.sequence 1
        repairQueue := s.repairQueue.filter (· != s.tail)
        slots := s.slots.set s.tail .empty, tail := s.tail + 1 }
      let s3 := { s2 with slots := s2.slots.set s.fill (.filling h map) }
      let s4 := if s.currentPass < h.pass then State.raise { s3 with currentPass := h.pass } .passBegin (beBytes 1 h.pass) else s3
      exec (.blockOpen r) s = .next (ringAnswer s1 r .blockOpen (s4.takeFragment h map i (b.drop 12)))

/-- R63: a BLOCK MORE without a fragment index is BAD_FORMAT; one without an open block is NO_OPEN_BLOCK; one with a fragment
index or a data length that the open block's header does not allow is refused; any other is taken as R64 lays down, in every run
state. -/
def Obligations.BlockMoreReadAgainstOpenBlock : Prop :=
  ∀ (r : ProtocolFrame) (s : State), s.Admits .blockMore r →
    let b := bodyOf r
    let i := (byteAt b 0).toNat
    let s1 := s.count .upstreamIn
    let refused := fun status => .next (s1.putReply (.response r.src 0x13 r.tag status []))
    (r.bodyLen < 1 → exec (.blockMore r) s = refused .badFormat) ∧
    (1 ≤ r.bodyLen → (s.slots[s.fill]).isFilling = false → exec (.blockMore r) s = refused .noOpenBlock) ∧
    ∀ h map, 1 ≤ r.bodyLen → s.slots[s.fill] = .filling h map →
      (fragmentCount h.length ≤ i → exec (.blockMore r) s = refused .badFormat) ∧
      (i < fragmentCount h.length → r.bodyLen - 1 ≠ fragmentLength h.length i → exec (.blockMore r) s = refused .badLength) ∧
      ∀ j : Fin 8, j.val = i → i < fragmentCount h.length → r.bodyLen - 1 = fragmentLength h.length i →
        exec (.blockMore r) s = .next (ringAnswer s1 r .blockMore (s1.takeFragment h map j (b.drop 1)))

/-- R64, R65: a duplicate fragment is only counted; any other is written from byte 1024 × i and joins the fragment map; the fragment that
completes the block has it checked: READY with fill advanced when its CRC-32 agrees, EMPTY with fill in place when it differs. -/
def Obligations.FragmentTakenAndBlockChecked : Prop :=
  ∀ (s : State) (h : BlockHeader) (map : Vector Bool 8) (i : Fin 8) (data : List Byte),
    (map[i] = true → s.takeFragment h map i data = (s.count .duplicateFragments, none)) ∧
    (map[i] = false →
      let memory := memWrite s.blockMem[s.fill] (1024 * i.val) data
      let s1 : State := { s with blockMem := s.blockMem.set s.fill memory }
      ((∃ j : Fin 8, j ≠ i ∧ j.val < fragmentCount h.length ∧ map[j] = false) →
        s.takeFragment h map i data = ({ s1 with slots := s.slots.set s.fill (.filling h (map.set i true)) }, none)) ∧
      ((∀ j : Fin 8, j ≠ i → j.val < fragmentCount h.length → map[j] = true) →
        (crc32 (memRead memory 0 h.length) = h.check →
          let t := State.count { s1 with slots := s.slots.set s.fill (.ready h), fill := s.fill + 1 } .blocksCompleted
          s.takeFragment h map i data = (t, some (.ok, beBytes 1 s.fill.val ++ beBytes 1 (64 - t.slots.toList.countP Slot.held)))) ∧
        (crc32 (memRead memory 0 h.length) ≠ h.check →
          let t := State.count { s1 with slots := s.slots.set s.fill .empty } .checkFailures
          s.takeFragment h map i data =
            (t, some (.badCheck, beBytes 1 s.fill.val ++ beBytes 1 (64 - t.slots.toList.countP Slot.held))))))

/-- R64, R60: a write of bytes at an address of block memory is read back from those addresses, and every other byte of the slot's 8192
reads as it did. -/
def Obligations.BlockMemoryReadsBack : Prop :=
  ∀ (m : Memory) (a : Nat) (data : List Byte) (x : Nat), x < 8192 → memByte (memWrite m a data) x =
    if a ≤ x ∧ x < a + data.length then data.getD (x - a) 0 else memByte m x

/-- R75: RING FLUSH in PAUSED puts the sequence of every READY slot, and of every SENT slot that a desk waits for, into the Wanted
List in ring order, then empties the ring, the Repair Queue and the engine's hold, and brings tail and current to fill; in any
other run state it is refused WRONG_STATE. -/
def Obligations.RingFlushEmptiesRing : Prop :=
  ∀ (r : ProtocolFrame) (s : State), s.Admits .ringFlush r →
    (s.run.code ≠ 2 → exec (.ringFlush r) s =
      .next ((s.count .upstreamIn).putReply (.response r.src 0x14 r.tag .wrongState []))) ∧
    ∀ (info : RunInfo) (deadline : Nat), s.run = .running true info deadline →
    let owed := (List.finRange 64).filterMap fun k => match s.slots[s.tail + k] with
      | .ready h => some h.sequence
      | .sent h _ _ waiting => if waiting.isEmpty then none else some h.sequence
      | _ => none
    let s1 := s.count .upstreamIn
    let s2 : State := { s1 with
      wanted := owed.foldl (fun l q => insertRange info.params.blockCount l q 1) s.wanted
      slots := Vector.replicate 64 .empty
      counters := (if s.anyFilling then s1.count .discards else s1).counters
      repairQueue := [], transmission := none, tail := s.fill, current := s.fill }
    exec (.ringFlush r) s = .next ((State.ringSpace s1 s2).putReply
      (.response r.src 0x14 r.tag .ok (beBytes 1 owed.length ++ [64])))

/-- R70: the retirement check empties the tail slot and advances tail while the tail is SENT with an empty pending set, not queued for
repair and not in transmission, and stops at the first slot that is not. -/
def Obligations.RetirementStopsAtFirstHeld : Prop :=
  ∀ s : State, ∃ n ≤ 64, (∀ k < n, match s.slots[s.tail + Fin.ofNat 64 k] with
        | .sent _ _ _ waiting => waiting = [] ∧ s.tail + Fin.ofNat 64 k ∉ s.repairQueue ∧
            (∀ t, s.transmission = some t → t.slot ≠ s.tail + Fin.ofNat 64 k)
        | _ => False) ∧
      s.retire.tail = s.tail + Fin.ofNat 64 n ∧
      (∀ k < 64, s.retire.slots[s.tail + Fin.ofNat 64 k] = if k < n then .empty else s.slots[s.tail + Fin.ofNat 64 k]) ∧
      (n < 64 → match s.slots[s.tail + Fin.ofNat 64 n] with
        | .sent _ _ _ waiting => waiting ≠ [] ∨ s.tail + Fin.ofNat 64 n ∈ s.repairQueue ∨
            (∃ t, s.transmission = some t ∧ t.slot = s.tail + Fin.ofNat 64 n)
        | _ => True) ∧
      s.retire = { s with slots := s.retire.slots, tail := s.retire.tail }

/-! ## The Wanted List -/

/-- R113 to R115: an insertion keeps the list's form with at most 32 ranges, every block of the list stays in it, and every block of the
range below N is in it; a range whose first block is at or above N, or whose count is 0, leaves the list unchanged. Any other
insertion makes the list m in its form of exactly the blocks of the list and of the range below N. With at most 32 ranges, m is the
outcome; with 33, the neighbouring pair with the smallest gap, the lowest such pair on a tie, becomes one range that covers both and the
gap, and every other range stays. -/
def Obligations.WantedInsertionKeepsForm : Prop :=
  ∀ (n : Nat) (l : List Range) (f c : Nat), RangesGood n l → l.length ≤ 32 →
    let has := fun (l : List Range) (x : Nat) => ∃ r ∈ l, r.first ≤ x ∧ x < r.first + r.count
    let l' := insertRange n l f c
    RangesGood n l' ∧ l'.length ≤ 32 ∧ (∀ x, has l x → has l' x) ∧ (∀ x, f ≤ x → x < f + c → x < n → has l' x) ∧
    ((n ≤ f ∨ c = 0) → l' = l) ∧
    (f < n → (mergeInto l f (min (f + c) n)).length ≤ 32 → ∀ x, has l' x → has l x ∨ (f ≤ x ∧ x < f + c)) ∧
    (f < n → c ≠ 0 → ∃ m, RangesGood n m ∧ (∀ x, has m x ↔ has l x ∨ (f ≤ x ∧ x < f + c ∧ x < n)) ∧ m.length ≤ 33 ∧
      (m.length ≤ 32 → l' = m) ∧
      (m.length = 33 → ∃ pre a b post, m = pre ++ a :: b :: post ∧
        l' = pre ++ { first := a.first, count := b.first + b.count - a.first } :: post ∧
        ∀ pre' a' b' post', m = pre' ++ a' :: b' :: post' →
          let gap := b.first - (a.first + a.count)
          let gap' := b'.first - (a'.first + a'.count)
          gap ≤ gap' ∧ (gap = gap' → pre.length ≤ pre'.length)))

/-- R116: WANTED READ and WANTED TAKE are answered OK with the number of ranges, the blocks they cover and each range; the first
leaves the list, the second empties it, and neither changes anything else, in every run state. With the list in its form (R113,
R117) there are at most 32 ranges, and none in STANDBY. -/
def Obligations.WantedReadAndTake : Prop :=
  ∀ (r : ProtocolFrame) (s : State),
    let body := beBytes 1 s.wanted.length ++ beBytes 4 (s.wanted.map Range.count).sum
      ++ s.wanted.flatMap (fun x => beBytes 3 x.first ++ beBytes 3 x.count)
    (s.Admits .wantedRead r →
      exec (.wantedRead r) s = .next ((s.count .upstreamIn).putReply (.response r.src 0x15 r.tag .ok body))) ∧
    (s.Admits .wantedTake r →
      exec (.wantedTake r) s = .next (State.putReply { s.count .upstreamIn with wanted := [] }
        (.response r.src 0x16 r.tag .ok body))) ∧
    (s.WantedGood → s.wanted.length ≤ 32 ∧ (s.run = .standby → body = [0, 0, 0, 0, 0]))

/-! ## Presence, the scan and the circuits -/

/-- R4: with the addresses distinct, the Address Index names a record exactly for the non-zero address the record holds. R36, R37: in
ACTIVE and PAUSED a frame from the address of a desk in WAKING, or QUEUED with wake attempts of at least 1, makes the desk AWAKE
with its discovery timeout and takes it out of the Wake Queue; a frame from any other source changes nothing. -/
def Obligations.PresenceConfirmsWake : Prop :=
  (∀ (s : State) (a : MacAddr), s.AddressesDistinct →
     (∀ d : DeskId, s.lookup a = some d ↔ a ≠ 0 ∧ s.desks[d].config.address = a) ∧
     (s.lookup a = none ↔ a = 0 ∨ ∀ d : DeskId, s.desks[d].config.address ≠ a)) ∧
  ∀ (s : State) (src : MacAddr),
    (∀ (d : DeskId) (paused : Bool) (info : RunInfo) (deadline : Nat), s.lookup src = some d →
      s.run = .running paused info deadline →
      let n := s.desks[d].night
      (n.state = .waking ∨ (n.state = .queued ∧ 1 ≤ n.wakeAttempts)) →
      s.presence src = { s with
        desks := s.desks.set d { s.desks[d] with night := { n with
          state := .awake
          timer := some (if paused then .held (info.params.discoveryTimeout * 1000)
            else .running (s.now + info.params.discoveryTimeout * 1000)) } }
        wakeQueue := if n.state = .queued then s.wakeQueue.filter (· != d) else s.wakeQueue }) ∧
    ((s.lookup src = none ∨ s.run.inProgress = false ∨ ∃ d, s.lookup src = some d ∧ s.desks[d].night.state ≠ .waking ∧
        (s.desks[d].night.state ≠ .queued ∨ s.desks[d].night.wakeAttempts = 0)) →
      s.presence src = s)

/-- R31 to R33, R25, R28: what the scan does with the desk its walk has reached: fails it OVER_BUDGET, wakes it with its circuit charged
and its gap started, or leaves it in its place. -/
def Obligations.ScanConsidersDesk : Prop :=
  ∀ (s : State) (info : RunInfo) (deadline : Nat) (failed : Bool) (d : DeskId), s.run = .running false info deadline →
    let cfg := s.desks[d].config
    let n := s.desks[d].night
    let c := s.circuits[cfg.circuit]
    let tooBig := c.budget = 0 ∨ c.budget < cfg.weight
    let eligible := c.load + cfg.weight ≤ c.budget ∧ c.gapTimer = none ∧ s.controlQueue.length < 16
    let without := { s with wakeQueue := s.wakeQueue.filter (· != d) }
    (tooBig → State.scanDesk info (s, failed) d = (without.failDesk d .overBudget, true)) ∧
    (¬ tooBig → eligible → State.scanDesk info (s, failed) d =
      ({ without with
          desks := s.desks.set d { s.desks[d] with
            night := { n with wakeAttempts := n.wakeAttempts + 1, state := .waking,
                              timer := some (.running (s.now + info.params.wakeTimeout * 1000)) } }
          controlQueue := s.controlQueue ++ [.wake info.params.runTag cfg.address]
          circuits := s.circuits.set cfg.circuit
            { c with load := min (c.load + cfg.weight) 65535, gapTimer := if 0 < c.gap then some (s.now + c.gap) else none } },
        failed)) ∧
    (¬ tooBig → ¬ eligible → State.scanDesk info (s, failed) d = (s, failed))

/-- R30, R31, R25, R39: a scan runs in ACTIVE only. It walks the Wake Queue as it stood, from the oldest desk to the newest, and considers each
(ScanConsidersDesk) in the state that those before it left. It keeps the order of the desks it leaves queued; each desk it takes out of the queue is
WAKING, with one attempt more, or FAILED OVER_BUDGET, in which case the scan says that a desk failed; it changes no other desk and
no configuration; and it raises no circuit's load above its budget. -/
def Obligations.ScanOutcome : Prop :=
  ∀ s : State,
    (s.run.active = false → s.scan = (s, false)) ∧
    (∀ info deadline, s.run = .running false info deadline → s.scan = s.wakeQueue.foldl (State.scanDesk info) (s, false)) ∧
    (s.run.active = true → s.wakeQueue.Nodup →
      let t := s.scan.1
      t.wakeQueue.Sublist s.wakeQueue ∧
      (∀ d ∈ s.wakeQueue, d ∉ t.wakeQueue →
        (t.desks[d].night.state = .waking ∧ t.desks[d].night.wakeAttempts = s.desks[d].night.wakeAttempts + 1) ∨
        (t.desks[d].night.state = .failed ∧ t.desks[d].night.failCause = some .overBudget ∧ s.scan.2 = true)) ∧
      (∀ d : DeskId, (d ∉ s.wakeQueue ∨ d ∈ t.wakeQueue) → t.desks[d].night = s.desks[d].night) ∧
      (∀ d : DeskId, t.desks[d].config = s.desks[d].config) ∧
      ∀ c : CircuitId, t.circuits[c].budget = s.circuits[c].budget ∧
        t.circuits[c].load ≤ max s.circuits[c].load s.circuits[c].budget ∧
        (s.circuits[c].load ≤ 65535 → s.circuits[c].load ≤ t.circuits[c].load))

/-- R26 to R28: a due decay step takes ceil(L × D / 256) off its circuit's load, which stays at 0 or above and falls by at least 1 while L
and D are above 0, sets the timer one interval on, and triggers a scan; a due gap expiry makes the gap timer absent and triggers a
scan. -/
def Obligations.DecayStepAndGapExpiry : Prop :=
  (∀ (s : State) (paused : Bool) (info : RunInfo) (deadline : Nat) (c : CircuitId), s.run = .running paused info deadline →
    let old := s.circuits[c]
    (∀ t, old.decayTimer = some t → t ≤ s.now →
      let new := { old with
        load := old.load - (old.load * old.decay + 255) / 256, decayTimer := some (t + info.params.decayInterval) }
      exec (.decayStep c) s = .next (State.scanAndSettle s { s with circuits := s.circuits.set c new })) ∧
    (∀ t, old.gapTimer = some t → t ≤ s.now →
      exec (.gapExpiry c) s = .next (State.scanAndSettle s { s with circuits := s.circuits.set c { old with gapTimer := none } }))) ∧
  ∀ load decay : Nat, decay < 256 → (load * decay + 255) / 256 ≤ load ∧
    load * decay ≤ 256 * ((load * decay + 255) / 256) ∧ 256 * ((load * decay + 255) / 256) < load * decay + 256 ∧
    (0 < load → 0 < decay → 1 ≤ (load * decay + 255) / 256) ∧ (decay = 0 → (load * decay + 255) / 256 = 0)

/-- R158, R160: a raising sets its flag and no other, and puts a notice with the run tag, the kind and the 4-byte datum, addressed to the
run owner, at the tail of the reply queue exactly when the kind is in the notice enable set; with 8 frames held the notice is dropped
and counted. R77, R128: what follows an event's own work: RING_SPACE when the number of EMPTY slots has reached the low-water setting
from below, then, when a desk finished, the close with cause ALL_DONE if every desk that is not IDLE is COMPLETE or FAILED and the
Wake Queue is empty. With no run in progress before the event, as for RUN START, no RING_SPACE is raised, and the close is as before (R77,
R122). That the datum's value stands in its first bytes for RING_SPACE, PASS_BEGIN and RUN_CLOSED too is DEDUCED (assumption log
18). -/
def Obligations.EventsRaisedAndRunClosed : Prop :=
  (∀ (s : State) (k : EventKind) (datum : List Byte) (info : RunInfo), s.run.info? = some info →
     (∀ j : EventKind, (s.raise k datum).flags.getLsbD j.code = (s.flags.getLsbD j.code || j == k)) ∧
     (s.noticeEnable.getLsbD k.code = false → s.raise k datum = { s with flags := (s.raise k datum).flags }) ∧
     (s.noticeEnable.getLsbD k.code = true → s.replyQueue.length < 8 → s.raise k datum = { s with
       flags := (s.raise k datum).flags
       replyQueue := s.replyQueue ++ [.notice info.owner info.params.runTag k (datum ++ List.replicate (4 - datum.length) 0)] }) ∧
     (s.noticeEnable.getLsbD k.code = true → 8 ≤ s.replyQueue.length → s.raise k datum =
       State.count { s with flags := (s.raise k datum).flags } .managementDrops)) ∧
  ∀ (before s : State) (finished : Bool),
    let done := s.wakeQueue = [] ∧ ∀ d : DeskId, s.desks[d].night.state = .idle ∨ s.desks[d].night.state = .complete ∨
      s.desks[d].night.state = .failed
    (∀ (paused : Bool) (info : RunInfo) (deadline : Nat),
      before.run = .running paused info deadline → (∃ p, s.run = .running p info deadline) →
      let free := fun t : State => 64 - t.slots.toList.countP Slot.held
      let s1 := if free before < info.params.lowWater ∧ info.params.lowWater ≤ free s then s.raise .ringSpace (beBytes 1 (free s))
        else s
      (finished = true → done → State.settle before s finished = s1.closeRun .allDone) ∧
      ((finished = false ∨ ¬ done) → State.settle before s finished = s1)) ∧
    (before.run.inProgress = false →
      (finished = true → done → s.run.inProgress = true → State.settle before s finished = s.closeRun .allDone) ∧
      ((finished = false ∨ ¬ done ∨ s.run.inProgress = false) → State.settle before s finished = s))

/-! ## Desk timers -/

/-- R13: a due deadline of a WAKING desk re-queues it below the wake attempt limit, with a scan, and fails it NO_WAKE at the limit. R14,
R16: a due deadline fails an AWAKE desk NO_DISCOVERY, an OFFERED desk NO_JOIN and a JOINED desk at the poll limit SILENT; below the
limit a JOINED desk's polls are raised, its silence timeout restarts and a POLL with the raised number is put into the Control
Queue, or dropped and counted with 16 frames held. -/
def Obligations.DeskTimersExpire : Prop :=
  (∀ (s : State) (d : DeskId) (info : RunInfo) (deadline x : Nat), s.run = .running false info deadline →
     let n := s.desks[d].night
     n.state = .waking → n.timer = some (.running x) → x ≤ s.now →
     (n.wakeAttempts < info.params.wakeAttemptLimit → exec (.wakeTimeoutExpiry d) s = .next (State.scanAndSettle s { s with
       desks := s.desks.set d { s.desks[d] with night := { n with state := .queued, timer := none } }
       wakeQueue := s.wakeQueue ++ [d] })) ∧
     (info.params.wakeAttemptLimit ≤ n.wakeAttempts →
       exec (.wakeTimeoutExpiry d) s = .next (State.settle s (s.failDesk d .noWake) true))) ∧
  ∀ (s : State) (d : DeskId) (info : RunInfo) (deadline x : Nat), s.run = .running false info deadline →
    let n := s.desks[d].night
    n.timer = some (.running x) → x ≤ s.now →
    (n.state = .awake → exec (.discoveryTimeoutExpiry d) s = .next (State.settle s (s.failDesk d .noDiscovery) true)) ∧
    (n.state = .offered → exec (.joinTimeoutExpiry d) s = .next (State.settle s (s.failDesk d .noJoin) true)) ∧
    (n.state = .joined → info.params.pollLimit ≤ n.polls →
      exec (.silenceTimeoutExpiry d) s = .next (State.settle s (s.failDesk d .silent) true)) ∧
    (n.state = .joined → n.polls < info.params.pollLimit →
      let s1 : State := { s with desks := s.desks.set d { s.desks[d] with night := { n with
        polls := n.polls + 1, timer := some (.running (s.now + info.params.silenceTimeout * 1000)) } } }
      exec (.silenceTimeoutExpiry d) s = .next
        (if s.controlQueue.length < 16 then
          { s1 with controlQueue := s.controlQueue ++ [.poll s.desks[d].config.address info.params.runTag (n.polls + 1)] }
        else s1.count .controlDrops))

/-- R11, R12: outside ACTIVE, in another desk state, or before its deadline, a desk's timer does not expire; R27, R28, R127: nor does a
circuit's timer or the window outside ACTIVE and PAUSED, or before its time. A command for an event that cannot happen then has no
effect, which is the model's choice (assumption log 6). -/
def Obligations.CommandsWithoutTheirEvent : Prop :=
  (∀ (s : State) (d : DeskId) (x : DeskState) (c : Instr),
     ((x = .waking ∧ c = .wakeTimeoutExpiry d) ∨ (x = .awake ∧ c = .discoveryTimeoutExpiry d) ∨
       (x = .offered ∧ c = .joinTimeoutExpiry d) ∨ (x = .joined ∧ c = .silenceTimeoutExpiry d)) →
     (s.run.active = false ∨ s.desks[d].night.state ≠ x ∨
       ∀ deadline, s.desks[d].night.timer = some (.running deadline) → s.now < deadline) →
     exec c s = .next s) ∧
  (∀ (s : State) (c : CircuitId),
    ((s.run.inProgress = false ∨ s.circuits[c].decayTimer = none ∨ ∃ t, s.circuits[c].decayTimer = some t ∧ s.now < t) →
      exec (.decayStep c) s = .next s) ∧
    ((s.run.inProgress = false ∨ s.circuits[c].gapTimer = none ∨ ∃ t, s.circuits[c].gapTimer = some t ∧ s.now < t) →
      exec (.gapExpiry c) s = .next s)) ∧
  ∀ s : State, (s.run.inProgress = false ∨ ∃ paused info deadline, s.run = .running paused info deadline ∧ s.now < deadline) →
    exec .windowEnd s = .next s

/-- R17, R18, R69: a desk that fails or completes has its night fields changed as the rule says and no others, leaves every pending set, and
raises DESK_FAILED with its id and cause or DESK_DONE with its id; the retirement check follows the departure. The close fails desks
RUN_ENDED without the event (StopAndWindowCloseTheRun). -/
def Obligations.DeskFailsOrCompletes : Prop :=
  ∀ (s : State) (d : DeskId) (info : RunInfo), s.run.info? = some info →
    let n := s.desks[d].night
    let leaves := fun (night : Night) => State.retire { s with
      desks := s.desks.set d { s.desks[d] with night := night }
      slots := s.slots.map fun x => match x with
        | .sent h position firstSend waiting => .sent h position firstSend (waiting.filter (· != d))
        | other => other }
    (∀ cause, cause ≠ .runEnded → s.failDesk d cause = (leaves { n with state := .failed, failCause := some cause, timer := none, joinedPos := none }).raise
      .deskFailed [BitVec.ofNat 8 d.val, BitVec.ofNat 8 cause.code]) ∧
    s.completeDesk d = (leaves { n with state := .complete, completion := some (s.now - info.start), timer := none,
                                        joinedPos := none }).raise .deskDone [BitVec.ofNat 8 d.val]

/-! ## Boot Discovery Steering -/

/-- R44, R45, R165: a frame is parseable when its headers and the fixed part of its boot message pass the checks of R44, and its option area,
up to the end of the UDP data, is a sequence of pads and whole options, ended by that end or by an option code of 255, whose first
message type option has length 1 and whose first server identifier, if any, has length 4. What is kept of it: the fixed fields and the
first occurrence of each of three options. R46, R47: the eight conditions under which a parseable frame qualifies for an answer. -/
def Obligations.DiscoveryQualifies : Prop :=
  (∀ (f : List Byte) (q : Discovery),
    let h := (byteAt f 14).toNat % 16
    let total := beNat f 16 2
    let udpLength := beNat f (18 + 4 * h) 2
    let m := 22 + 4 * h
    parseDiscovery f = some q ↔
      (beNat f 12 2 = 0x0800 ∧ (byteAt f 14).toNat / 16 = 4 ∧ 5 ≤ h ∧ 4 * h + 8 ≤ total ∧ total + 14 ≤ f.length ∧
        onesSum ((f.drop 14).take (4 * h)) = 65535 ∧ beNat f 20 2 % 16384 = 0 ∧ byteAt f 23 = 17 ∧ beNat f (16 + 4 * h) 2 = 67 ∧
        248 ≤ udpLength ∧ udpLength + 4 * h ≤ total ∧ byteAt f m = 1 ∧ byteAt f (m + 1) = 1 ∧ byteAt f (m + 2) = 6 ∧
        beNat f (m + 236) 4 = 0x63825363) ∧
      ∃ (pieces : List (List Byte)) (rest : List Byte),
        let first := fun code : Byte => (pieces.find? fun x => x.head? == some code).map (List.drop 2)
        (f.drop (m + 240)).take (udpLength - 248) = pieces.flatten ++ rest ∧ (rest = [] ∨ rest.head? = some 255) ∧
        (∀ x ∈ pieces, x = [0] ∨ ∃ code len v, x = code :: len :: v ∧ code ≠ 0 ∧ code ≠ 255 ∧ v.length = len.toNat) ∧
        (∃ t : Byte, first 53 = some [t] ∧ q.messageType = t.toNat) ∧ q.vendorClass = first 60 ∧
        ((first 54 = none ∧ q.server = none) ∨ ∃ v, first 54 = some v ∧ v.length = 4 ∧ q.server = some (ipAt v 0)) ∧
        q.transaction = BitVec.ofNat 32 (beNat f (m + 4) 4) ∧ q.bootFlags = BitVec.ofNat 16 (beNat f (m + 10) 2) ∧
        q.clientAddress = BitVec.ofNat 32 (beNat f (m + 12) 4) ∧ q.gateway = ipAt f (m + 24) ∧ q.client = macAt f (m + 28)) ∧
  ∀ (s : State) (q : Discovery) (info : RunInfo) (d : DeskId),
    s.qualifies q = some (info, d) ↔
      (∃ paused deadline, s.run = .running paused info deadline) ∧ (q.messageType = 1 ∨ q.messageType = 3) ∧ q.gateway = 0 ∧
      s.lookup q.client = some d ∧
      (s.desks[d].night.state = .awake ∨ s.desks[d].night.state = .offered ∨ s.desks[d].night.state = .joined) ∧
      s.desks[d].config.lease ≠ 0 ∧
      (info.params.marker = [] ∨ ∃ v, q.vendorClass = some v ∧ info.params.marker.length ≤ v.length ∧
        v.take info.params.marker.length = info.params.marker) ∧
      (q.messageType = 3 → q.server = none ∨ q.server = some info.params.bootServer)

/-- R49 to R52, R56: a BOOT frame of the Room port that qualifies moves its desk on and is answered: AWAKE and OFFERED desks are
OFFERED with their join timeout set anew; a JOINED desk below the restart limit restarts, leaving every pending set; at the limit
it fails RESTARTS and the frame is handed back. The reply joins the Control Queue and is counted, or with 16 frames held is
dropped and counted. The hit of the entry that classified the frame is part of the command (assumption log 3). -/
def Obligations.DiscoveryAnswered : Prop :=
  ∀ (frame : List Byte) (s : State) (q : Discovery) (info : RunInfo) (d : DeskId),
    parseDiscovery frame = some q →
    let s1 := ((s.count .roomIn).presence (macAt frame 6)).bootHit .room frame
    s1.qualifies q = some (info, d) →
    let n := s1.desks[d].night
    let cfg := s1.desks[d].config
    let timer := some (s1.newTimer info.params.joinTimeout)
    let reply : ControlFrame := .bootReply
      { acknowledge := q.messageType == 3, client := cfg.address, lease := cfg.lease, server := info.params.bootServer
        leaseTime := info.params.leaseTime, subnetMask := info.params.subnetMask, router := info.params.router
        loaderName := info.params.loaderName, transaction := q.transaction, bootFlags := q.bootFlags
        clientAddress := q.clientAddress }
    let answered := fun t : State =>
      if t.controlQueue.length < 16 then State.count { t with controlQueue := t.controlQueue ++ [reply] } .bootReplies
      else t.count .controlDrops
    (n.state ≠ .joined → exec (.bootDiscovery .room frame) s = .next (State.ringSpace s1
      (answered (s1.modifyNight d fun n => { n with state := .offered, timer := timer })))) ∧
    (n.state = .joined → n.restarts < info.params.restartLimit → exec (.bootDiscovery .room frame) s =
      .next (State.ringSpace s1 (answered (State.leaveRing (s1.modifyNight d fun n =>
        { n with restarts := n.restarts + 1, state := .offered, joinedPos := none, timer := timer }) d)))) ∧
    (n.state = .joined → info.params.restartLimit ≤ n.restarts → exec (.bootDiscovery .room frame) s =
      .next (State.settle s1 (((s1.failDesk d .restarts).count .bootPassBacks).passThrough .room frame) true))

/-- R43, R48: a BOOT frame of the Upstream port, and one of the Room port that is not parseable or does not qualify, is counted as a
pass-back and enters the FIFO toward the other port unchanged; no desk changes but by presence. -/
def Obligations.DiscoveryHandedBack : Prop :=
  ∀ (frame : List Byte) (s : State),
    exec (.bootDiscovery .upstream frame) s =
      .next ((((s.count .upstreamIn).bootHit .upstream frame).count .bootPassBacks).passThrough .upstream frame) ∧
    let s1 := ((s.count .roomIn).presence (macAt frame 6)).bootHit .room frame
    (parseDiscovery frame = none ∨ ∃ q, parseDiscovery frame = some q ∧ s1.qualifies q = none) →
    exec (.bootDiscovery .room frame) s = .next ((s1.count .bootPassBacks).passThrough .room frame)

/-- R55: a boot reply is 342 bytes, its IPv4 header's ones' complement sum is all ones, and its boot message is 300 bytes long. -/
def Obligations.BootReplyLengthsAndChecksum : Prop :=
  ∀ (station : MacAddr) (b : BootReply), b.loaderName.length ≤ 64 →
    let f := bootReplyBytes station b
    f.length = 342 ∧ (bootMessage b).length = 300 ∧ f.drop 42 = bootMessage b ∧ beNat f 16 2 = 328 ∧ beNat f 38 2 = 308 ∧
    beNat f 40 2 = 0 ∧ onesSum ((f.drop 14).take 20) = 65535

/-! ## JOIN and REPORT -/

/-- R164: which JOIN is not malformed, and the desk address and loader version it carries. R98 to R101: what one does, by run state and
desk. A malformed one is ignored and counted (R97). -/
def Obligations.JoinDecidedByTable : Prop :=
  (∀ (r : ProtocolFrame) (client : MacAddr) (version : BitVec 16),
    let b := bodyOf r
    parseJoin r = some (client, version) ↔
      r.version = 1 ∧ r.bodyLen ≤ r.rest.length ∧ 8 ≤ r.bodyLen ∧ macAt b 0 ≠ 0 ∧ isGroup (macAt b 0) = false ∧
      client = macAt b 0 ∧ version = BitVec.ofNat 16 (beNat b 6 2)) ∧
  ∀ (r : ProtocolFrame) (s : State),
    let s1 := (s.count .roomIn).presence r.src
    (parseJoin r = none → exec (.join r) s = .next (s1.count .reportsIgnored)) ∧
    ∀ client version, parseJoin r = some (client, version) →
      let refused := fun (info : RunInfo) (reason : RefuseReason) =>
        Host.Outcome.next (φ := Fault) (ρ := Refusal)
          (s1.putControl (.joinRefuse client reason version info.params.runTag))
      (s.run = .standby → exec (.join r) s = .next (s1.count .reportsIgnored)) ∧
      (∀ info cause left, s.run = .closed info cause left → exec (.join r) s = refused info .notRunning) ∧
      ∀ paused info deadline, s.run = .running paused info deadline →
        (s1.lookup client = none → exec (.join r) s = refused info .unknown) ∧
        ∀ d, s1.lookup client = some d →
          let n := s1.desks[d].night
          let accept := fun position : Nat => ControlFrame.joinAccept s1.desks[d].config.address info.params.runTag version
            info.params.blockCount info.params.imageCheck info.params.streamGroup info.params.reportInterval position
          (n.state = .offered → exec (.join r) s = .next (State.putControl
            { s1 with desks := s1.desks.set d { s1.desks[d] with night := { n with
                state := .joined, joinedPos := some s.position, polls := 0
                timer := some (if paused then .held (info.params.silenceTimeout * 1000)
                  else .running (s.now + info.params.silenceTimeout * 1000)) } } }
            (accept s.position))) ∧
          (∀ position, n.state = .joined → n.joinedPos = some position →
            exec (.join r) s = .next (s1.putControl (accept position))) ∧
          (n.state ≠ .offered → n.state ≠ .joined → exec (.join r) s = refused info .notReady)

/-- R104 to R108: a REPORT from a JOINED desk, in ACTIVE or PAUSED with the run's tag: steps 1 to 5 in their order, then the desk
completes on zero missing blocks and a good image, fails IMAGE_BAD on a bad one, with its FINISH, or stays JOINED; RING_SPACE and
the ALL_DONE evaluation follow. That with the position exhausted (R81) a P or a NAK of 4294967295 is read by step 2 and by the SENT
slots alone is the model's choice (assumption log 19). R105, R90: a NAK of the position of a SENT slot appends the slot to the Repair Queue, leaves a
slot already there in its place, and with 16 entries held counts an overflow; a NAK of any other position is only counted. That one
retirement check after all the acknowledgements does the work of one after each is DEDUCED (assumption log 10). -/
def Obligations.ReportProcessedInSteps : Prop :=
  (∀ (s : State) (position : Nat),
     ((∀ i : SlotId, (s.slots[i]).position? ≠ some position) → s.takeNak position = s.count .naksIgnored) ∧
     ∀ i : SlotId, (s.slots[i]).position? = some position → (∀ j : SlotId, (s.slots[j]).position? = some position → j = i) →
       (i ∈ s.repairQueue → s.takeNak position = s) ∧
       (i ∉ s.repairQueue → 16 ≤ s.repairQueue.length → s.takeNak position = s.count .repairOverflows) ∧
       (i ∉ s.repairQueue → s.repairQueue.length < 16 → s.takeNak position = { s with repairQueue := s.repairQueue ++ [i] })) ∧
  ∀ (r : ProtocolFrame) (s : State) (f : ReportFields) (paused : Bool) (info : RunInfo) (deadline : Nat) (d : DeskId),
    parseReport r = some f → s.run = .running paused info deadline → f.runTag = info.params.runTag →
    let s1 := (s.count .roomIn).presence r.src
    s1.lookup r.src = some d → s1.desks[d].night.state = .joined →
    let timer := if paused then DeskTimer.held (info.params.silenceTimeout * 1000)
      else .running (s.now + info.params.silenceTimeout * 1000)
    let s2 := (s1.count .reportsTaken).modifyNight d fun n => { n with polls := 0, timer := some timer }
    let s3 := State.retire { s2 with slots := s2.slots.map fun x => match x with
      | .sent h position firstSend waiting =>
        if position < f.ack ∧ position ∉ f.naks then .sent h position firstSend (waiting.filter (· != d))
        else .sent h position firstSend waiting
      | other => other }
    let s4 := f.naks.foldl State.takeNak s3
    let s5 := { s4 with wanted := f.ranges.foldl (fun (l : List Range) (x : Range) => insertRange info.params.blockCount l x.first x.count) s4.wanted }
    let missing := min f.missing info.params.blockCount
    let s6 := s5.modifyNight d fun n => { n with lastAck := some f.ack, missing := some missing, image := f.image }
    let finish := fun (failed : Bool) (action : AfterAction) =>
      ControlFrame.finish s1.desks[d].config.address info.params.runTag failed action
    (missing = 0 → f.image = .good → exec (.report r) s =
      .next (State.settle s1 ((s6.completeDesk d).putControl (finish false info.params.afterAction)) true)) ∧
    (f.image = .bad → exec (.report r) s =
      .next (State.settle s1 ((s6.failDesk d .imageBad).putControl (finish true .stay)) true)) ∧
    (f.image ≠ .bad → ¬ (missing = 0 ∧ f.image = .good) → exec (.report r) s = .next (State.ringSpace s1 s6))

/-- R164: which REPORT is not malformed, and the fields it carries. R103, R109, R97: a REPORT that is malformed, or from no known desk, or with another run tag, or in STANDBY, or from a desk neither
COMPLETE nor JOINED in a run in progress, is ignored and counted after its presence effect; a COMPLETE desk is sent FINISH again. -/
def Obligations.ReportIgnoredOrFinishedAgain : Prop :=
  (∀ (r : ProtocolFrame) (f : ReportFields),
    let b := bodyOf r
    let naks := (byteAt b 10).toNat
    let ranges := (byteAt b 11).toNat
    parseReport r = some f ↔
      r.version = 1 ∧ r.bodyLen ≤ r.rest.length ∧ 12 ≤ r.bodyLen ∧ naks ≤ 8 ∧ ranges ≤ 4 ∧ 12 + 4 * naks + 6 * ranges ≤ r.bodyLen ∧
      (byteAt b 9).toNat = f.image.code ∧ f.runTag = BitVec.ofNat 16 (beNat b 0 2) ∧ f.ack = beNat b 2 4 ∧ f.missing = beNat b 6 3 ∧
      f.naks = (List.range naks).map (fun i => beNat b (12 + 4 * i) 4) ∧
      f.ranges = (List.range ranges).map fun i =>
        { first := beNat b (12 + 4 * naks + 6 * i) 3, count := beNat b (12 + 4 * naks + 6 * i + 3) 3 }) ∧
  ∀ (r : ProtocolFrame) (s : State),
    let s1 := (s.count .roomIn).presence r.src
    ((parseReport r = none ∨ s.run = .standby ∨ s1.lookup r.src = none ∨
        (∃ f info, parseReport r = some f ∧ s.run.info? = some info ∧ f.runTag ≠ info.params.runTag) ∨
        (∃ d, s1.lookup r.src = some d ∧ s1.desks[d].night.state ≠ .complete ∧
          (s1.desks[d].night.state ≠ .joined ∨ s.run.inProgress = false))) →
      exec (.report r) s = .next (s1.count .reportsIgnored)) ∧
    ∀ f info d, parseReport r = some f → s.run.info? = some info → f.runTag = info.params.runTag → s1.lookup r.src = some d →
      s1.desks[d].night.state = .complete →
      exec (.report r) s = .next ((s1.count .reportsTaken).putControl
        (.finish s1.desks[d].config.address info.params.runTag false info.params.afterAction))

/-! ## Links and egress -/

/-- R134, R94: a link going down empties the FIFO toward its port, counting each frame at the port it arrived at, loses the frame
being sent, and, at the Room port in ACTIVE, cuts a transmission; a link coming up clears that cut in ACTIVE; the queues of frames
the part built are kept. That a link already down or up does not change is the model's choice (assumption log 6). -/
def Obligations.LinkChanges : Prop :=
  ∀ s : State,
    (s.upstreamLink = true → exec (.linkDown .upstream) s = .next
      { s with
        upstreamLink := false, toUpstream := [], upstreamSending := none
        counters := (if s.upstreamSending.isSome then (s.countBy .roomDropped s.toUpstream.length).count .upstreamDropped
          else s.countBy .roomDropped s.toUpstream.length).counters }) ∧
    (s.roomLink = true → exec (.linkDown .room) s = .next
      { s with
        roomLink := false, toRoom := [], roomSending := none
        transmission := if s.run.active then s.transmission.map fun t => if t.cut then t else { t with cut := true, next := 0 }
          else s.transmission
        counters := (if s.roomSending.isSome then (s.countBy .upstreamDropped s.toRoom.length).count .roomDropped
          else s.countBy .upstreamDropped s.toRoom.length).counters }) ∧
    (s.upstreamLink = false → exec (.linkDown .upstream) s = .next s ∧
      exec (.linkUp .upstream) s = .next { s with upstreamLink := true }) ∧
    (s.roomLink = false → exec (.linkDown .room) s = .next s ∧
      exec (.linkUp .room) s = .next { s with
        roomLink := true
        transmission := if s.run.active then s.transmission.map fun t => { t with cut := false } else s.transmission }) ∧
    (s.upstreamLink = true → exec (.linkUp .upstream) s = .next s) ∧ (s.roomLink = true → exec (.linkUp .room) s = .next s)

/-- R145, R144: at a Room frame opportunity the source the map names at the egress position is served when it has a frame, and otherwise the
first with a frame of CONTROL, PASS, STREAM; the frame is handed to the MAC and the position advances by one; a departure from a
Control Queue of 16 frames triggers a scan. With no source, a down link or a MAC that is sending no opportunity arises, and that the command
then has no effect is the model's choice (assumption log 6). -/
def Obligations.RoomOpportunityServesSource : Prop :=
  ∀ s : State,
    let has := fun x : Source => match x with
      | .pass => s.toRoom ≠ []
      | .control => s.controlQueue ≠ []
      | .stream => s.run.active = true ∧ s.roomLink = true ∧ (s.transmission ≠ none ∨
          (s.exhausted = false ∧ (s.slots[s.current]).isReady = true) ∨ s.repairQueue ≠ [])
    let named := s.slotMap[s.egressPos]
    let serves := fun x : Source => has x ∧ (x = named ∨ (¬ has named ∧ (x = .control ∨ (¬ has .control ∧ (x = .pass ∨ ¬ has .pass)))))
    ((s.roomLink = false ∨ s.roomSending ≠ none ∨ ∀ x, ¬ has x) → exec .roomFrameOpportunity s = .next s) ∧
    (s.roomLink = true → s.roomSending = none →
      (∀ frame rest, serves .pass → s.toRoom = frame :: rest → exec .roomFrameOpportunity s =
        .next { s with toRoom := rest, roomSending := some frame, egressPos := s.egressPos + 1 }) ∧
      (∀ f rest, serves .control → s.controlQueue = f :: rest →
        let s1 := { s with controlQueue := rest, roomSending := some (f.bytes s.station), egressPos := s.egressPos + 1 }
        exec .roomFrameOpportunity s = .next (if 16 ≤ s.controlQueue.length then State.scanAndSettle s s1 else s1)) ∧
      (∀ info deadline, serves .stream → s.run = .running false info deadline →
        exec .roomFrameOpportunity s = .next (State.ringSpace s { (s.serveStream info).1 with
          roomSending := some (s.serveStream info).2, egressPos := s.egressPos + 1 })))

/-- R83, R84, R85, R87: with no transmission in progress the engine chooses the head of the Repair Queue below the repair burst,
else the READY slot at current, else the head of the Repair Queue; a first transmission makes the slot SENT with the next
position, the time and the JOINED desks; a repair removes the head; each then hands fragment 0. With one in progress its next
fragment is handed. -/
def Obligations.StreamChoosesAndStarts : Prop :=
  ∀ (s : State) (info : RunInfo),
    (∀ t, s.transmission = some t → s.serveStream info = s.handFragment info t) ∧
    (s.transmission = none →
      (∀ h, s.slots[s.current] = .ready h → s.exhausted = false →
        (s.repairQueue = [] ∨ info.params.repairBurst ≤ s.repairCount) →
        let s1 := State.count { s with
          slots := s.slots.set s.current (.sent h s.position s.now
            ((List.finRange 128).filter fun d => s.desks[d].night.state == .joined))
          current := s.current + 1, repairCount := 0
          position := if s.position < 4294967295 then s.position + 1 else s.position
          exhausted := decide (4294967295 ≤ s.position) } .firstTransmissions
        let s2 := if h.notify then s1.raise .blockSent (beBytes 3 h.sequence) else s1
        s.serveStream info = s2.handFragment info { slot := s.current, kind := .first, next := 0, cut := false }) ∧
      (∀ i rest, s.repairQueue = i :: rest →
        (s.repairCount < info.params.repairBurst ∨ s.exhausted = true ∨ (s.slots[s.current]).isReady = false) →
        let t : Transmission := { slot := i, kind := .repair, next := 0, cut := false }
        s.serveStream info = ((State.retire { s with
          repairQueue := rest, transmission := some t
          repairCount := min (s.repairCount + 1) info.params.repairBurst }).count .repairs).handFragment info t))

/-- R82, R86, R78: handing a fragment builds its STREAM DATA frame from the slot's record and block memory; before the last the
record moves on; with the last the transmission ends, the retirement check is made, and RING_DRAINED is raised at the end of a
first transmission with nothing READY or FILLING. -/
def Obligations.FragmentHandedOrTransmissionEnds : Prop :=
  ∀ (s : State) (info : RunInfo) (t : Transmission) (h : BlockHeader) (position firstSend : Nat) (waiting : List DeskId),
    s.slots[t.slot] = .sent h position firstSend waiting →
    let k := fragmentCount h.length
    let data := (List.range (fragmentLength h.length t.next)).map fun j => memByte s.blockMem[t.slot] (1024 * t.next + j)
    let body := beBytes 2 info.params.runTag.toNat ++ beBytes 4 position ++ beBytes 3 h.sequence ++ beBytes 1 h.pass
      ++ beBytes 2 h.length ++ beBytes 4 h.check.toNat ++ beBytes 1 t.next ++ beBytes 1 k ++ boolByte (t.kind == .repair) ++ data
    (s.handFragment info t).2 = vendorFrame info.params.streamGroup s.station 0x47 0 body ∧
    (t.next + 1 < k → (s.handFragment info t).1 = { s with transmission := some { t with next := t.next + 1 } }) ∧
    (k ≤ t.next + 1 →
      let s1 := State.retire { s with transmission := none }
      ((t.kind = .first ∧ ∀ i : SlotId, (s1.slots[i]).isReady = false ∧ (s1.slots[i]).isFilling = false) →
        (s.handFragment info t).1 = s1.raise .ringDrained []) ∧
      ((t.kind = .repair ∨ ∃ i : SlotId, (s1.slots[i]).isReady = true ∨ (s1.slots[i]).isFilling = true) →
        (s.handFragment info t).1 = s1))

/-- R147, R145: an Upstream frame opportunity serves the only source with a frame, and with both waiting the one not served last; a MAC that
has sent a handed frame raises its port's frames out counter. That the commands have no effect where no opportunity arises and where no
frame is being sent is the model's choice (assumption log 6). -/
def Obligations.UpstreamAlternatesAndFramesAreSent : Prop :=
  ∀ s : State,
    (s.upstreamLink = true → s.upstreamSending = none →
      (∀ f rest, s.replyQueue = f :: rest → (s.toUpstream = [] ∨ s.lastServed = .fifo) →
        exec .upstreamFrameOpportunity s = .next
          { s with replyQueue := rest, upstreamSending := some (f.bytes s.station), lastServed := .reply }) ∧
      (∀ frame rest, s.toUpstream = frame :: rest → (s.replyQueue = [] ∨ s.lastServed = .reply) →
        exec .upstreamFrameOpportunity s = .next
          { s with toUpstream := rest, upstreamSending := some frame, lastServed := .fifo })) ∧
    ((s.upstreamLink = false ∨ s.upstreamSending ≠ none ∨ (s.replyQueue = [] ∧ s.toUpstream = [])) →
      exec .upstreamFrameOpportunity s = .next s) ∧
    (s.upstreamSending ≠ none → exec (.frameSent .upstream) s = .next (State.count { s with upstreamSending := none } .upstreamOut)) ∧
    (s.roomSending ≠ none → exec (.frameSent .room) s = .next (State.count { s with roomSending := none } .roomOut)) ∧
    (s.upstreamSending = none → exec (.frameSent .upstream) s = .next s) ∧
    (s.roomSending = none → exec (.frameSent .room) s = .next s)

/-! ## Records read back -/

/-- 10_frame_formats.md, R7, R121: the run parameter record and a desk's configuration, laid out as a request carries them, are read back
field for field. -/
def Obligations.RecordsReadBack : Prop :=
  (∀ p : RunParams, p.InRange → p.blockCount < 2 ^ 24 → p.leaseTime < 2 ^ 32 → p.loaderName.length < 256 → p.marker.length < 256 →
    parseRunParams p.bytes = p ∧ takenParams p.bytes = p) ∧
  ∀ c : DeskConfig, c.weight < 256 → parseDeskFields 31 c.bytes = some
    { address := some c.address, circuit := some c.circuit.val, weight := some c.weight, lease := some c.lease
      enrolled := some (if c.enrolled then 1 else 0) }

/-! ## Rules of the whole part -/

/-- R118: the run state after a command, by the run state before it and the command: only RUN START takes the part out of STANDBY, only
RUN PAUSE from ACTIVE to PAUSED, only RUN RESUME back, only REPORT RELEASE and the resets into STANDBY, and nothing but these leaves
CLOSED. A RUN START, and any event that finishes the last desk, may close the run in the same event (R122, R128). R119, R123: while a
run parameter record is present, no command changes it, its owner or its start time: after any command the same record is present,
or none is. -/
def Obligations.RunChangesOnlyByRule : Prop :=
  (∀ (c : Instr) (s t : State), exec c s = .next t → s.run.code ≠ t.run.code →
     let is := fun k : ReqKind => (∃ r, c = Instr.ofKind k r) ∨
       ∃ frame, c = .frameArrival .upstream true frame ∧ (byteAt frame 15).toNat = k.code
     (t.run.code = 0 ∧ (is .engineReset ∨ is .fullReset ∨ c = .powerOn ∨ (s.run.code = 3 ∧ is .reportRelease))) ∨
     (s.run.code = 0 ∧ (t.run.code = 1 ∨ t.run.code = 3) ∧ is .runStart) ∨
     (s.run.code = 1 ∧ t.run.code = 2 ∧ is .runPause) ∨
     (s.run.code = 2 ∧ t.run.code = 1 ∧ is .runResume) ∨
     ((s.run.code = 1 ∨ s.run.code = 2) ∧ t.run.code = 3)) ∧
  ∀ (c : Instr) (s t : State) (info : RunInfo), exec c s = .next t → s.run.info? = some info →
    t.run.info? = some info ∨ t.run = .standby

/-- R150: the Station List changes only by a STATION WRITE or a loss of power. R137, R2: nothing that arrives at the Room port, and no
timer, link or egress event, changes what the depot loaded: desk configurations, budgets, decay factors and gap times, match
entries but for their hit counts, the live count, the slot map, the Station List, the notice enable set and the run parameter
record. -/
def Obligations.OnlyRequestsConfigure : Prop :=
  (∀ (c : Instr) (s t : State), exec c s = .next t → t.stations ≠ s.stations →
     c = .powerOn ∨ (∃ r, c = .stationWrite r) ∨
       ∃ frame, c = .frameArrival .upstream true frame ∧ (byteAt frame 15).toNat = 0x0B) ∧
  ∀ (c : Instr) (s t : State), exec c s = .next t → (∀ k r, c ≠ Instr.ofKind k r) → c ≠ .powerOn →
    (∀ good frame, c ≠ .frameArrival .upstream good frame) →
    (∀ d : DeskId, t.desks[d].config = s.desks[d].config) ∧
    (∀ x : CircuitId, t.circuits[x].budget = s.circuits[x].budget ∧ t.circuits[x].decay = s.circuits[x].decay ∧
      t.circuits[x].gap = s.circuits[x].gap) ∧
    (∀ i : Fin 32, ∃ hits, t.matchTable[i] = { s.matchTable[i] with hits := hits }) ∧
    t.liveCount = s.liveCount ∧ t.slotMap = s.slotMap ∧ t.stations = s.stations ∧ t.noticeEnable = s.noticeEnable ∧
    t.run.info? = s.run.info? ∧ t.station = s.station

/-- R80, R156: until a request starts a run, resets, releases or clears, the counters only rise and the stream position only rises: no other
command lowers one. -/
def Obligations.CountersAndPositionOnlyRise : Prop :=
  ∀ (c : Instr) (s t : State), (∀ k, s.counter k ≤ 4294967295) → exec c s = .next t → c ≠ .powerOn →
    (∀ r, c ≠ .countersRead r ∧ c ≠ .fullReset r) → (∀ good frame, c ≠ .frameArrival .upstream good frame) →
    (∀ k, s.counter k ≤ t.counter k) ∧ ((∀ r, c ≠ .runStart r ∧ c ≠ .engineReset r) → s.position ≤ t.position)

/-! ## Invariants -/

/-- R138, R144, R147, R89, R142, R151, R156: every queue stays within its bound, and every counter within 32 bits. R4: no two desk records
come to hold the same non-zero address. R113, R117: the Wanted List keeps its form. Block memory keeps its canonical form. R2, R7, R21,
R22, R25, R139, R141, R61, R87: surge weights, circuit fields, match entries, the current pass and the repair count keep their ranges. -/
def Obligations.BoundsAndFormsStay : Prop :=
  (∀ s t : State, s.QueuesBounded → step s = .next t → t.QueuesBounded) ∧
  (∀ s t : State, s.AddressesDistinct → step s = .next t → t.AddressesDistinct) ∧
  (∀ s t : State, s.WantedGood → step s = .next t → t.WantedGood) ∧
  (∀ s t : State, s.MemoryGood → step s = .next t → t.MemoryGood) ∧
  ∀ s t : State, s.DesksGood → s.FieldsInRange → step s = .next t → t.FieldsInRange

/-- R3, R11, R12, R19, R29, R107, R118, R121: the run, the desk records and the Wake Queue stay in agreement, whatever the step. -/
def Obligations.DesksStayGood : Prop :=
  ∀ s t : State, s.DesksGood → s.RingGood → step s = .next t → t.DesksGood ∧ (s.ControlQuiet → t.ControlQuiet)

/-- R59, R60, R68, R76, R80, R82, R89, R92 to R95, R118: the Block Ring keeps its one unbroken run, and the Stream Engine, the
pending sets and the Repair Queue stay in agreement with it, whatever the step. -/
def Obligations.RingStaysGood : Prop :=
  ∀ s t : State, s.DesksGood → s.RingGood → step s = .next t → t.RingGood

/-- The state after reset meets every invariant above. -/
def Obligations.ResetStateIsSafe : Prop :=
  State.reset.QueuesBounded ∧ State.reset.AddressesDistinct ∧ State.reset.WantedGood ∧ State.reset.MemoryGood ∧
    State.reset.FieldsInRange ∧ State.reset.DesksGood ∧ State.reset.ControlQuiet ∧ State.reset.RingGood
end

