-- ==== Sys2Proof/Laws/Memory.lean ====
section
/-! SUPPORT. Block memory keeps its canonical form: the empty memory of State.reset has it, and a write keeps it. -/

namespace Sys2Proof.Machine

/-- The form, as a statement about the cells: addresses rising, and each cell within the slot and not an unlisted byte. -/
theorem Memory.wf_iff (m : Memory) :
    Memory.wf m = true ↔ m.Pairwise (fun x y => x.1 < y.1) ∧ ∀ c ∈ m, c.2 ≠ 0 ∧ c.1 < Config.slotBytes := by
  induction m with
  | nil => simp [Memory.wf]
  | cons c t ih =>
    simp only [Memory.wf, Bool.and_eq_true, ih, bne_iff_ne, decide_eq_true_eq, List.all_eq_true, List.pairwise_cons,
      List.mem_cons, forall_eq_or_imp]
    tauto

theorem mem_cellsFrom {a : Nat} {data : List Byte} {c : Host.Cell} (h : c ∈ cellsFrom a data) :
    a ≤ c.1 ∧ c.1 < a + data.length ∧ c.2 ≠ 0 ∧ c.1 < Config.slotBytes := by
  induction data generalizing a with
  | nil => simp [cellsFrom] at h
  | cons b t ih =>
    unfold cellsFrom at h
    split at h
    · rename_i hb
      simp only [Bool.and_eq_true, bne_iff_ne, decide_eq_true_eq] at hb
      rcases List.mem_cons.1 h with rfl | h
      · simp only [List.length_cons]; exact ⟨le_refl _, by omega, hb.1, hb.2⟩
      · have := ih h; simp only [List.length_cons]; exact ⟨by omega, by omega, this.2.2⟩
    · have := ih h; simp only [List.length_cons]; exact ⟨by omega, by omega, this.2.2⟩

theorem cellsFrom_rising (a : Nat) (data : List Byte) : (cellsFrom a data).Pairwise (fun x y => x.1 < y.1) := by
  induction data generalizing a with
  | nil => exact List.Pairwise.nil
  | cons b t ih =>
    unfold cellsFrom
    split
    · exact List.pairwise_cons.2 ⟨fun c hc => by have := mem_cellsFrom hc; simp only; omega, ih _⟩
    · exact ih _

/-- A write keeps the canonical form. -/
theorem memWrite_wf {m : Memory} (h : Memory.wf m = true) (a : Nat) (data : List Byte) :
    Memory.wf (memWrite m a data) = true := by
  rw [Memory.wf_iff] at h ⊢
  obtain ⟨h1, h2⟩ := h
  have low : ∀ c ∈ m.filter (fun c => c.1 < a), c.1 < a := fun c hc => by simpa using (List.mem_filter.1 hc).2
  have high : ∀ c ∈ m.filter (fun c => a + data.length ≤ c.1), a + data.length ≤ c.1 :=
    fun c hc => by simpa using (List.mem_filter.1 hc).2
  refine ⟨?_, fun c hc => ?_⟩
  · unfold memWrite
    refine List.pairwise_append.2 ⟨List.pairwise_append.2 ⟨h1.filter _, cellsFrom_rising a data, fun x hx y hy => ?_⟩,
      h1.filter _, fun x hx y hy => ?_⟩
    · have := low x hx; have := mem_cellsFrom hy; omega
    · have := high y hy
      rcases List.mem_append.1 hx with hx | hx
      · have := low x hx; omega
      · have := mem_cellsFrom hx; omega
  · unfold memWrite at hc
    rcases List.mem_append.1 hc with hc | hc
    · rcases List.mem_append.1 hc with hc | hc
      · exact h2 c (List.mem_filter.1 hc).1
      · exact (mem_cellsFrom hc).2.2
    · exact h2 c (List.mem_filter.1 hc).1

/-- The block memory after reset is in canonical form. -/
theorem reset_memory_wf (i : SlotId) : Memory.wf State.reset.blockMem[i] = true := by
  have : State.reset.blockMem = Vector.replicate 64 [] := rfl
  rw [this]; simp [Memory.wf]

end Sys2Proof.Machine
end

