-- ==== Sys2Proof/Laws/State.lean ====
section
/-! SUPPORT. What each basic update of the state leaves alone: one lemma for each field it does not write, and one for each
field it does. -/

namespace Sys2Proof.Machine

/-! ## Counters -/

theorem State.countBy_counter_same (s : State) (k : Counter) (n : Nat) :
    (s.countBy k n).counter k = min (s.counter k + n) Config.counterLimit := by
  simp [State.counter, State.countBy]

@[simp] theorem State.countBy_now (s : State) (k : Counter) (n : Nat) : (s.countBy k n).now = s.now := rfl
@[simp] theorem State.countBy_station (s : State) (k : Counter) (n : Nat) : (s.countBy k n).station = s.station := rfl
@[simp] theorem State.countBy_desks (s : State) (k : Counter) (n : Nat) : (s.countBy k n).desks = s.desks := rfl
@[simp] theorem State.countBy_circuits (s : State) (k : Counter) (n : Nat) : (s.countBy k n).circuits = s.circuits := rfl
@[simp] theorem State.countBy_wakeQueue (s : State) (k : Counter) (n : Nat) : (s.countBy k n).wakeQueue = s.wakeQueue := rfl
@[simp] theorem State.countBy_slots (s : State) (k : Counter) (n : Nat) : (s.countBy k n).slots = s.slots := rfl
@[simp] theorem State.countBy_blockMem (s : State) (k : Counter) (n : Nat) : (s.countBy k n).blockMem = s.blockMem := rfl
@[simp] theorem State.countBy_tail (s : State) (k : Counter) (n : Nat) : (s.countBy k n).tail = s.tail := rfl
@[simp] theorem State.countBy_current (s : State) (k : Counter) (n : Nat) : (s.countBy k n).current = s.current := rfl
@[simp] theorem State.countBy_fill (s : State) (k : Counter) (n : Nat) : (s.countBy k n).fill = s.fill := rfl
@[simp] theorem State.countBy_currentPass (s : State) (k : Counter) (n : Nat) : (s.countBy k n).currentPass = s.currentPass := rfl
@[simp] theorem State.countBy_position (s : State) (k : Counter) (n : Nat) : (s.countBy k n).position = s.position := rfl
@[simp] theorem State.countBy_exhausted (s : State) (k : Counter) (n : Nat) : (s.countBy k n).exhausted = s.exhausted := rfl
@[simp] theorem State.countBy_repairQueue (s : State) (k : Counter) (n : Nat) : (s.countBy k n).repairQueue = s.repairQueue := rfl
@[simp] theorem State.countBy_transmission (s : State) (k : Counter) (n : Nat) : (s.countBy k n).transmission = s.transmission := rfl
@[simp] theorem State.countBy_repairCount (s : State) (k : Counter) (n : Nat) : (s.countBy k n).repairCount = s.repairCount := rfl
@[simp] theorem State.countBy_wanted (s : State) (k : Counter) (n : Nat) : (s.countBy k n).wanted = s.wanted := rfl
@[simp] theorem State.countBy_run (s : State) (k : Counter) (n : Nat) : (s.countBy k n).run = s.run := rfl
@[simp] theorem State.countBy_upstreamLink (s : State) (k : Counter) (n : Nat) : (s.countBy k n).upstreamLink = s.upstreamLink := rfl
@[simp] theorem State.countBy_roomLink (s : State) (k : Counter) (n : Nat) : (s.countBy k n).roomLink = s.roomLink := rfl
@[simp] theorem State.countBy_toRoom (s : State) (k : Counter) (n : Nat) : (s.countBy k n).toRoom = s.toRoom := rfl
@[simp] theorem State.countBy_toUpstream (s : State) (k : Counter) (n : Nat) : (s.countBy k n).toUpstream = s.toUpstream := rfl
@[simp] theorem State.countBy_matchTable (s : State) (k : Counter) (n : Nat) : (s.countBy k n).matchTable = s.matchTable := rfl
@[simp] theorem State.countBy_liveCount (s : State) (k : Counter) (n : Nat) : (s.countBy k n).liveCount = s.liveCount := rfl
@[simp] theorem State.countBy_controlQueue (s : State) (k : Counter) (n : Nat) : (s.countBy k n).controlQueue = s.controlQueue := rfl
@[simp] theorem State.countBy_slotMap (s : State) (k : Counter) (n : Nat) : (s.countBy k n).slotMap = s.slotMap := rfl
@[simp] theorem State.countBy_egressPos (s : State) (k : Counter) (n : Nat) : (s.countBy k n).egressPos = s.egressPos := rfl
@[simp] theorem State.countBy_replyQueue (s : State) (k : Counter) (n : Nat) : (s.countBy k n).replyQueue = s.replyQueue := rfl
@[simp] theorem State.countBy_lastServed (s : State) (k : Counter) (n : Nat) : (s.countBy k n).lastServed = s.lastServed := rfl
@[simp] theorem State.countBy_upstreamSending (s : State) (k : Counter) (n : Nat) : (s.countBy k n).upstreamSending = s.upstreamSending := rfl
@[simp] theorem State.countBy_roomSending (s : State) (k : Counter) (n : Nat) : (s.countBy k n).roomSending = s.roomSending := rfl
@[simp] theorem State.countBy_stations (s : State) (k : Counter) (n : Nat) : (s.countBy k n).stations = s.stations := rfl
@[simp] theorem State.countBy_flags (s : State) (k : Counter) (n : Nat) : (s.countBy k n).flags = s.flags := rfl
@[simp] theorem State.countBy_noticeEnable (s : State) (k : Counter) (n : Nat) : (s.countBy k n).noticeEnable = s.noticeEnable := rfl
@[simp] theorem State.countBy_pending (s : State) (k : Counter) (n : Nat) : (s.countBy k n).pending = s.pending := rfl

@[simp] theorem State.count_now (s : State) (k : Counter) : (s.count k).now = s.now := rfl
@[simp] theorem State.count_station (s : State) (k : Counter) : (s.count k).station = s.station := rfl
@[simp] theorem State.count_desks (s : State) (k : Counter) : (s.count k).desks = s.desks := rfl
@[simp] theorem State.count_circuits (s : State) (k : Counter) : (s.count k).circuits = s.circuits := rfl
@[simp] theorem State.count_wakeQueue (s : State) (k : Counter) : (s.count k).wakeQueue = s.wakeQueue := rfl
@[simp] theorem State.count_slots (s : State) (k : Counter) : (s.count k).slots = s.slots := rfl
@[simp] theorem State.count_blockMem (s : State) (k : Counter) : (s.count k).blockMem = s.blockMem := rfl
@[simp] theorem State.count_tail (s : State) (k : Counter) : (s.count k).tail = s.tail := rfl
@[simp] theorem State.count_current (s : State) (k : Counter) : (s.count k).current = s.current := rfl
@[simp] theorem State.count_fill (s : State) (k : Counter) : (s.count k).fill = s.fill := rfl
@[simp] theorem State.count_currentPass (s : State) (k : Counter) : (s.count k).currentPass = s.currentPass := rfl
@[simp] theorem State.count_position (s : State) (k : Counter) : (s.count k).position = s.position := rfl
@[simp] theorem State.count_exhausted (s : State) (k : Counter) : (s.count k).exhausted = s.exhausted := rfl
@[simp] theorem State.count_repairQueue (s : State) (k : Counter) : (s.count k).repairQueue = s.repairQueue := rfl
@[simp] theorem State.count_transmission (s : State) (k : Counter) : (s.count k).transmission = s.transmission := rfl
@[simp] theorem State.count_repairCount (s : State) (k : Counter) : (s.count k).repairCount = s.repairCount := rfl
@[simp] theorem State.count_wanted (s : State) (k : Counter) : (s.count k).wanted = s.wanted := rfl
@[simp] theorem State.count_run (s : State) (k : Counter) : (s.count k).run = s.run := rfl
@[simp] theorem State.count_upstreamLink (s : State) (k : Counter) : (s.count k).upstreamLink = s.upstreamLink := rfl
@[simp] theorem State.count_roomLink (s : State) (k : Counter) : (s.count k).roomLink = s.roomLink := rfl
@[simp] theorem State.count_toRoom (s : State) (k : Counter) : (s.count k).toRoom = s.toRoom := rfl
@[simp] theorem State.count_toUpstream (s : State) (k : Counter) : (s.count k).toUpstream = s.toUpstream := rfl
@[simp] theorem State.count_matchTable (s : State) (k : Counter) : (s.count k).matchTable = s.matchTable := rfl
@[simp] theorem State.count_liveCount (s : State) (k : Counter) : (s.count k).liveCount = s.liveCount := rfl
@[simp] theorem State.count_controlQueue (s : State) (k : Counter) : (s.count k).controlQueue = s.controlQueue := rfl
@[simp] theorem State.count_slotMap (s : State) (k : Counter) : (s.count k).slotMap = s.slotMap := rfl
@[simp] theorem State.count_egressPos (s : State) (k : Counter) : (s.count k).egressPos = s.egressPos := rfl
@[simp] theorem State.count_replyQueue (s : State) (k : Counter) : (s.count k).replyQueue = s.replyQueue := rfl
@[simp] theorem State.count_lastServed (s : State) (k : Counter) : (s.count k).lastServed = s.lastServed := rfl
@[simp] theorem State.count_upstreamSending (s : State) (k : Counter) : (s.count k).upstreamSending = s.upstreamSending := rfl
@[simp] theorem State.count_roomSending (s : State) (k : Counter) : (s.count k).roomSending = s.roomSending := rfl
@[simp] theorem State.count_stations (s : State) (k : Counter) : (s.count k).stations = s.stations := rfl
@[simp] theorem State.count_flags (s : State) (k : Counter) : (s.count k).flags = s.flags := rfl
@[simp] theorem State.count_noticeEnable (s : State) (k : Counter) : (s.count k).noticeEnable = s.noticeEnable := rfl
@[simp] theorem State.count_pending (s : State) (k : Counter) : (s.count k).pending = s.pending := rfl

/-! ## Queues of frames -/

/-- Everything a put at the Control Queue can do (R144). -/
theorem State.putControl_eq (s : State) (f : ControlFrame) :
    s.putControl f = { s with controlQueue := (s.putControl f).controlQueue, counters := (s.putControl f).counters } := by
  unfold State.putControl; split <;> rfl

@[simp] theorem State.putControl_now (s : State) (f : ControlFrame) : (s.putControl f).now = s.now := by rw [State.putControl_eq]
@[simp] theorem State.putControl_station (s : State) (f : ControlFrame) : (s.putControl f).station = s.station := by rw [State.putControl_eq]
@[simp] theorem State.putControl_desks (s : State) (f : ControlFrame) : (s.putControl f).desks = s.desks := by rw [State.putControl_eq]
@[simp] theorem State.putControl_circuits (s : State) (f : ControlFrame) : (s.putControl f).circuits = s.circuits := by rw [State.putControl_eq]
@[simp] theorem State.putControl_wakeQueue (s : State) (f : ControlFrame) : (s.putControl f).wakeQueue = s.wakeQueue := by rw [State.putControl_eq]
@[simp] theorem State.putControl_slots (s : State) (f : ControlFrame) : (s.putControl f).slots = s.slots := by rw [State.putControl_eq]
@[simp] theorem State.putControl_blockMem (s : State) (f : ControlFrame) : (s.putControl f).blockMem = s.blockMem := by rw [State.putControl_eq]
@[simp] theorem State.putControl_tail (s : State) (f : ControlFrame) : (s.putControl f).tail = s.tail := by rw [State.putControl_eq]
@[simp] theorem State.putControl_current (s : State) (f : ControlFrame) : (s.putControl f).current = s.current := by rw [State.putControl_eq]
@[simp] theorem State.putControl_fill (s : State) (f : ControlFrame) : (s.putControl f).fill = s.fill := by rw [State.putControl_eq]
@[simp] theorem State.putControl_currentPass (s : State) (f : ControlFrame) : (s.putControl f).currentPass = s.currentPass := by rw [State.putControl_eq]
@[simp] theorem State.putControl_position (s : State) (f : ControlFrame) : (s.putControl f).position = s.position := by rw [State.putControl_eq]
@[simp] theorem State.putControl_exhausted (s : State) (f : ControlFrame) : (s.putControl f).exhausted = s.exhausted := by rw [State.putControl_eq]
@[simp] theorem State.putControl_repairQueue (s : State) (f : ControlFrame) : (s.putControl f).repairQueue = s.repairQueue := by rw [State.putControl_eq]
@[simp] theorem State.putControl_transmission (s : State) (f : ControlFrame) : (s.putControl f).transmission = s.transmission := by rw [State.putControl_eq]
@[simp] theorem State.putControl_repairCount (s : State) (f : ControlFrame) : (s.putControl f).repairCount = s.repairCount := by rw [State.putControl_eq]
@[simp] theorem State.putControl_wanted (s : State) (f : ControlFrame) : (s.putControl f).wanted = s.wanted := by rw [State.putControl_eq]
@[simp] theorem State.putControl_run (s : State) (f : ControlFrame) : (s.putControl f).run = s.run := by rw [State.putControl_eq]
@[simp] theorem State.putControl_upstreamLink (s : State) (f : ControlFrame) : (s.putControl f).upstreamLink = s.upstreamLink := by rw [State.putControl_eq]
@[simp] theorem State.putControl_roomLink (s : State) (f : ControlFrame) : (s.putControl f).roomLink = s.roomLink := by rw [State.putControl_eq]
@[simp] theorem State.putControl_toRoom (s : State) (f : ControlFrame) : (s.putControl f).toRoom = s.toRoom := by rw [State.putControl_eq]
@[simp] theorem State.putControl_toUpstream (s : State) (f : ControlFrame) : (s.putControl f).toUpstream = s.toUpstream := by rw [State.putControl_eq]
@[simp] theorem State.putControl_matchTable (s : State) (f : ControlFrame) : (s.putControl f).matchTable = s.matchTable := by rw [State.putControl_eq]
@[simp] theorem State.putControl_liveCount (s : State) (f : ControlFrame) : (s.putControl f).liveCount = s.liveCount := by rw [State.putControl_eq]
@[simp] theorem State.putControl_slotMap (s : State) (f : ControlFrame) : (s.putControl f).slotMap = s.slotMap := by rw [State.putControl_eq]
@[simp] theorem State.putControl_egressPos (s : State) (f : ControlFrame) : (s.putControl f).egressPos = s.egressPos := by rw [State.putControl_eq]
@[simp] theorem State.putControl_replyQueue (s : State) (f : ControlFrame) : (s.putControl f).replyQueue = s.replyQueue := by rw [State.putControl_eq]
@[simp] theorem State.putControl_lastServed (s : State) (f : ControlFrame) : (s.putControl f).lastServed = s.lastServed := by rw [State.putControl_eq]
@[simp] theorem State.putControl_upstreamSending (s : State) (f : ControlFrame) : (s.putControl f).upstreamSending = s.upstreamSending := by rw [State.putControl_eq]
@[simp] theorem State.putControl_roomSending (s : State) (f : ControlFrame) : (s.putControl f).roomSending = s.roomSending := by rw [State.putControl_eq]
@[simp] theorem State.putControl_stations (s : State) (f : ControlFrame) : (s.putControl f).stations = s.stations := by rw [State.putControl_eq]
@[simp] theorem State.putControl_flags (s : State) (f : ControlFrame) : (s.putControl f).flags = s.flags := by rw [State.putControl_eq]
@[simp] theorem State.putControl_noticeEnable (s : State) (f : ControlFrame) : (s.putControl f).noticeEnable = s.noticeEnable := by rw [State.putControl_eq]
@[simp] theorem State.putControl_pending (s : State) (f : ControlFrame) : (s.putControl f).pending = s.pending := by rw [State.putControl_eq]

/-- Everything a put at the Upstream Reply Queue can do (R147). -/
theorem State.putReply_eq (s : State) (f : ReplyFrame) :
    s.putReply f = { s with replyQueue := (s.putReply f).replyQueue, counters := (s.putReply f).counters } := by
  unfold State.putReply; split <;> rfl

@[simp] theorem State.putReply_now (s : State) (f : ReplyFrame) : (s.putReply f).now = s.now := by rw [State.putReply_eq]
@[simp] theorem State.putReply_station (s : State) (f : ReplyFrame) : (s.putReply f).station = s.station := by rw [State.putReply_eq]
@[simp] theorem State.putReply_desks (s : State) (f : ReplyFrame) : (s.putReply f).desks = s.desks := by rw [State.putReply_eq]
@[simp] theorem State.putReply_circuits (s : State) (f : ReplyFrame) : (s.putReply f).circuits = s.circuits := by rw [State.putReply_eq]
@[simp] theorem State.putReply_wakeQueue (s : State) (f : ReplyFrame) : (s.putReply f).wakeQueue = s.wakeQueue := by rw [State.putReply_eq]
@[simp] theorem State.putReply_slots (s : State) (f : ReplyFrame) : (s.putReply f).slots = s.slots := by rw [State.putReply_eq]
@[simp] theorem State.putReply_blockMem (s : State) (f : ReplyFrame) : (s.putReply f).blockMem = s.blockMem := by rw [State.putReply_eq]
@[simp] theorem State.putReply_tail (s : State) (f : ReplyFrame) : (s.putReply f).tail = s.tail := by rw [State.putReply_eq]
@[simp] theorem State.putReply_current (s : State) (f : ReplyFrame) : (s.putReply f).current = s.current := by rw [State.putReply_eq]
@[simp] theorem State.putReply_fill (s : State) (f : ReplyFrame) : (s.putReply f).fill = s.fill := by rw [State.putReply_eq]
@[simp] theorem State.putReply_currentPass (s : State) (f : ReplyFrame) : (s.putReply f).currentPass = s.currentPass := by rw [State.putReply_eq]
@[simp] theorem State.putReply_position (s : State) (f : ReplyFrame) : (s.putReply f).position = s.position := by rw [State.putReply_eq]
@[simp] theorem State.putReply_exhausted (s : State) (f : ReplyFrame) : (s.putReply f).exhausted = s.exhausted := by rw [State.putReply_eq]
@[simp] theorem State.putReply_repairQueue (s : State) (f : ReplyFrame) : (s.putReply f).repairQueue = s.repairQueue := by rw [State.putReply_eq]
@[simp] theorem State.putReply_transmission (s : State) (f : ReplyFrame) : (s.putReply f).transmission = s.transmission := by rw [State.putReply_eq]
@[simp] theorem State.putReply_repairCount (s : State) (f : ReplyFrame) : (s.putReply f).repairCount = s.repairCount := by rw [State.putReply_eq]
@[simp] theorem State.putReply_wanted (s : State) (f : ReplyFrame) : (s.putReply f).wanted = s.wanted := by rw [State.putReply_eq]
@[simp] theorem State.putReply_run (s : State) (f : ReplyFrame) : (s.putReply f).run = s.run := by rw [State.putReply_eq]
@[simp] theorem State.putReply_upstreamLink (s : State) (f : ReplyFrame) : (s.putReply f).upstreamLink = s.upstreamLink := by rw [State.putReply_eq]
@[simp] theorem State.putReply_roomLink (s : State) (f : ReplyFrame) : (s.putReply f).roomLink = s.roomLink := by rw [State.putReply_eq]
@[simp] theorem State.putReply_toRoom (s : State) (f : ReplyFrame) : (s.putReply f).toRoom = s.toRoom := by rw [State.putReply_eq]
@[simp] theorem State.putReply_toUpstream (s : State) (f : ReplyFrame) : (s.putReply f).toUpstream = s.toUpstream := by rw [State.putReply_eq]
@[simp] theorem State.putReply_matchTable (s : State) (f : ReplyFrame) : (s.putReply f).matchTable = s.matchTable := by rw [State.putReply_eq]
@[simp] theorem State.putReply_liveCount (s : State) (f : ReplyFrame) : (s.putReply f).liveCount = s.liveCount := by rw [State.putReply_eq]
@[simp] theorem State.putReply_controlQueue (s : State) (f : ReplyFrame) : (s.putReply f).controlQueue = s.controlQueue := by rw [State.putReply_eq]
@[simp] theorem State.putReply_slotMap (s : State) (f : ReplyFrame) : (s.putReply f).slotMap = s.slotMap := by rw [State.putReply_eq]
@[simp] theorem State.putReply_egressPos (s : State) (f : ReplyFrame) : (s.putReply f).egressPos = s.egressPos := by rw [State.putReply_eq]
@[simp] theorem State.putReply_lastServed (s : State) (f : ReplyFrame) : (s.putReply f).lastServed = s.lastServed := by rw [State.putReply_eq]
@[simp] theorem State.putReply_upstreamSending (s : State) (f : ReplyFrame) : (s.putReply f).upstreamSending = s.upstreamSending := by rw [State.putReply_eq]
@[simp] theorem State.putReply_roomSending (s : State) (f : ReplyFrame) : (s.putReply f).roomSending = s.roomSending := by rw [State.putReply_eq]
@[simp] theorem State.putReply_stations (s : State) (f : ReplyFrame) : (s.putReply f).stations = s.stations := by rw [State.putReply_eq]
@[simp] theorem State.putReply_flags (s : State) (f : ReplyFrame) : (s.putReply f).flags = s.flags := by rw [State.putReply_eq]
@[simp] theorem State.putReply_noticeEnable (s : State) (f : ReplyFrame) : (s.putReply f).noticeEnable = s.noticeEnable := by rw [State.putReply_eq]
@[simp] theorem State.putReply_pending (s : State) (f : ReplyFrame) : (s.putReply f).pending = s.pending := by rw [State.putReply_eq]

/-- A response is one put at the Upstream Reply Queue (R153). -/
theorem State.respond_eq (s : State) (r : ProtocolFrame) (kind : Nat) (status : Status) (body : List Byte) :
    s.respond r kind status body = s.putReply (.response r.src kind r.tag status body) := rfl

theorem State.answer_eq (s : State) (r : ProtocolFrame) (k : ReqKind) (status : Status) (body : List Byte) :
    s.answer r k status body = s.putReply (.response r.src k.code r.tag status body) := rfl

theorem State.refuse_eq (s : State) (r : ProtocolFrame) (k : ReqKind) (status : Status) :
    s.refuse r k status = s.putReply (.response r.src k.code r.tag status []) := rfl

/-! ## Events -/

/-- Everything a raising can do (R158, R160). -/
theorem State.raise_eq (s : State) (k : EventKind) (datum : List Byte) :
    s.raise k datum = { s with flags := s.flags ||| k.bit, replyQueue := (s.raise k datum).replyQueue,
                               counters := (s.raise k datum).counters } := by
  unfold State.raise State.sendNotice
  split
  · split
    · exact State.putReply_eq _ _
    · rfl
  · rfl

@[simp] theorem State.raise_flags (s : State) (k : EventKind) (datum : List Byte) :
    (s.raise k datum).flags = s.flags ||| k.bit := by rw [State.raise_eq]

@[simp] theorem State.raise_now (s : State) (k : EventKind) (datum : List Byte) : (s.raise k datum).now = s.now := by rw [State.raise_eq]
@[simp] theorem State.raise_station (s : State) (k : EventKind) (datum : List Byte) : (s.raise k datum).station = s.station := by rw [State.raise_eq]
@[simp] theorem State.raise_desks (s : State) (k : EventKind) (datum : List Byte) : (s.raise k datum).desks = s.desks := by rw [State.raise_eq]
@[simp] theorem State.raise_circuits (s : State) (k : EventKind) (datum : List Byte) : (s.raise k datum).circuits = s.circuits := by rw [State.raise_eq]
@[simp] theorem State.raise_wakeQueue (s : State) (k : EventKind) (datum : List Byte) : (s.raise k datum).wakeQueue = s.wakeQueue := by rw [State.raise_eq]
@[simp] theorem State.raise_slots (s : State) (k : EventKind) (datum : List Byte) : (s.raise k datum).slots = s.slots := by rw [State.raise_eq]
@[simp] theorem State.raise_blockMem (s : State) (k : EventKind) (datum : List Byte) : (s.raise k datum).blockMem = s.blockMem := by rw [State.raise_eq]
@[simp] theorem State.raise_tail (s : State) (k : EventKind) (datum : List Byte) : (s.raise k datum).tail = s.tail := by rw [State.raise_eq]
@[simp] theorem State.raise_current (s : State) (k : EventKind) (datum : List Byte) : (s.raise k datum).current = s.current := by rw [State.raise_eq]
@[simp] theorem State.raise_fill (s : State) (k : EventKind) (datum : List Byte) : (s.raise k datum).fill = s.fill := by rw [State.raise_eq]
@[simp] theorem State.raise_currentPass (s : State) (k : EventKind) (datum : List Byte) : (s.raise k datum).currentPass = s.currentPass := by rw [State.raise_eq]
@[simp] theorem State.raise_position (s : State) (k : EventKind) (datum : List Byte) : (s.raise k datum).position = s.position := by rw [State.raise_eq]
@[simp] theorem State.raise_exhausted (s : State) (k : EventKind) (datum : List Byte) : (s.raise k datum).exhausted = s.exhausted := by rw [State.raise_eq]
@[simp] theorem State.raise_repairQueue (s : State) (k : EventKind) (datum : List Byte) : (s.raise k datum).repairQueue = s.repairQueue := by rw [State.raise_eq]
@[simp] theorem State.raise_transmission (s : State) (k : EventKind) (datum : List Byte) : (s.raise k datum).transmission = s.transmission := by rw [State.raise_eq]
@[simp] theorem State.raise_repairCount (s : State) (k : EventKind) (datum : List Byte) : (s.raise k datum).repairCount = s.repairCount := by rw [State.raise_eq]
@[simp] theorem State.raise_wanted (s : State) (k : EventKind) (datum : List Byte) : (s.raise k datum).wanted = s.wanted := by rw [State.raise_eq]
@[simp] theorem State.raise_run (s : State) (k : EventKind) (datum : List Byte) : (s.raise k datum).run = s.run := by rw [State.raise_eq]
@[simp] theorem State.raise_upstreamLink (s : State) (k : EventKind) (datum : List Byte) : (s.raise k datum).upstreamLink = s.upstreamLink := by rw [State.raise_eq]
@[simp] theorem State.raise_roomLink (s : State) (k : EventKind) (datum : List Byte) : (s.raise k datum).roomLink = s.roomLink := by rw [State.raise_eq]
@[simp] theorem State.raise_toRoom (s : State) (k : EventKind) (datum : List Byte) : (s.raise k datum).toRoom = s.toRoom := by rw [State.raise_eq]
@[simp] theorem State.raise_toUpstream (s : State) (k : EventKind) (datum : List Byte) : (s.raise k datum).toUpstream = s.toUpstream := by rw [State.raise_eq]
@[simp] theorem State.raise_matchTable (s : State) (k : EventKind) (datum : List Byte) : (s.raise k datum).matchTable = s.matchTable := by rw [State.raise_eq]
@[simp] theorem State.raise_liveCount (s : State) (k : EventKind) (datum : List Byte) : (s.raise k datum).liveCount = s.liveCount := by rw [State.raise_eq]
@[simp] theorem State.raise_controlQueue (s : State) (k : EventKind) (datum : List Byte) : (s.raise k datum).controlQueue = s.controlQueue := by rw [State.raise_eq]
@[simp] theorem State.raise_slotMap (s : State) (k : EventKind) (datum : List Byte) : (s.raise k datum).slotMap = s.slotMap := by rw [State.raise_eq]
@[simp] theorem State.raise_egressPos (s : State) (k : EventKind) (datum : List Byte) : (s.raise k datum).egressPos = s.egressPos := by rw [State.raise_eq]
@[simp] theorem State.raise_lastServed (s : State) (k : EventKind) (datum : List Byte) : (s.raise k datum).lastServed = s.lastServed := by rw [State.raise_eq]
@[simp] theorem State.raise_upstreamSending (s : State) (k : EventKind) (datum : List Byte) : (s.raise k datum).upstreamSending = s.upstreamSending := by rw [State.raise_eq]
@[simp] theorem State.raise_roomSending (s : State) (k : EventKind) (datum : List Byte) : (s.raise k datum).roomSending = s.roomSending := by rw [State.raise_eq]
@[simp] theorem State.raise_stations (s : State) (k : EventKind) (datum : List Byte) : (s.raise k datum).stations = s.stations := by rw [State.raise_eq]
@[simp] theorem State.raise_noticeEnable (s : State) (k : EventKind) (datum : List Byte) : (s.raise k datum).noticeEnable = s.noticeEnable := by rw [State.raise_eq]
@[simp] theorem State.raise_pending (s : State) (k : EventKind) (datum : List Byte) : (s.raise k datum).pending = s.pending := by rw [State.raise_eq]

/-! ## Desk records -/

@[simp] theorem State.modifyNight_now (s : State) (d : DeskId) (f : Night → Night) : (s.modifyNight d f).now = s.now := rfl
@[simp] theorem State.modifyNight_station (s : State) (d : DeskId) (f : Night → Night) : (s.modifyNight d f).station = s.station := rfl
@[simp] theorem State.modifyNight_circuits (s : State) (d : DeskId) (f : Night → Night) : (s.modifyNight d f).circuits = s.circuits := rfl
@[simp] theorem State.modifyNight_wakeQueue (s : State) (d : DeskId) (f : Night → Night) : (s.modifyNight d f).wakeQueue = s.wakeQueue := rfl
@[simp] theorem State.modifyNight_slots (s : State) (d : DeskId) (f : Night → Night) : (s.modifyNight d f).slots = s.slots := rfl
@[simp] theorem State.modifyNight_blockMem (s : State) (d : DeskId) (f : Night → Night) : (s.modifyNight d f).blockMem = s.blockMem := rfl
@[simp] theorem State.modifyNight_tail (s : State) (d : DeskId) (f : Night → Night) : (s.modifyNight d f).tail = s.tail := rfl
@[simp] theorem State.modifyNight_current (s : State) (d : DeskId) (f : Night → Night) : (s.modifyNight d f).current = s.current := rfl
@[simp] theorem State.modifyNight_fill (s : State) (d : DeskId) (f : Night → Night) : (s.modifyNight d f).fill = s.fill := rfl
@[simp] theorem State.modifyNight_currentPass (s : State) (d : DeskId) (f : Night → Night) : (s.modifyNight d f).currentPass = s.currentPass := rfl
@[simp] theorem State.modifyNight_position (s : State) (d : DeskId) (f : Night → Night) : (s.modifyNight d f).position = s.position := rfl
@[simp] theorem State.modifyNight_exhausted (s : State) (d : DeskId) (f : Night → Night) : (s.modifyNight d f).exhausted = s.exhausted := rfl
@[simp] theorem State.modifyNight_repairQueue (s : State) (d : DeskId) (f : Night → Night) : (s.modifyNight d f).repairQueue = s.repairQueue := rfl
@[simp] theorem State.modifyNight_transmission (s : State) (d : DeskId) (f : Night → Night) : (s.modifyNight d f).transmission = s.transmission := rfl
@[simp] theorem State.modifyNight_repairCount (s : State) (d : DeskId) (f : Night → Night) : (s.modifyNight d f).repairCount = s.repairCount := rfl
@[simp] theorem State.modifyNight_wanted (s : State) (d : DeskId) (f : Night → Night) : (s.modifyNight d f).wanted = s.wanted := rfl
@[simp] theorem State.modifyNight_run (s : State) (d : DeskId) (f : Night → Night) : (s.modifyNight d f).run = s.run := rfl
@[simp] theorem State.modifyNight_upstreamLink (s : State) (d : DeskId) (f : Night → Night) : (s.modifyNight d f).upstreamLink = s.upstreamLink := rfl
@[simp] theorem State.modifyNight_roomLink (s : State) (d : DeskId) (f : Night → Night) : (s.modifyNight d f).roomLink = s.roomLink := rfl
@[simp] theorem State.modifyNight_toRoom (s : State) (d : DeskId) (f : Night → Night) : (s.modifyNight d f).toRoom = s.toRoom := rfl
@[simp] theorem State.modifyNight_toUpstream (s : State) (d : DeskId) (f : Night → Night) : (s.modifyNight d f).toUpstream = s.toUpstream := rfl
@[simp] theorem State.modifyNight_matchTable (s : State) (d : DeskId) (f : Night → Night) : (s.modifyNight d f).matchTable = s.matchTable := rfl
@[simp] theorem State.modifyNight_liveCount (s : State) (d : DeskId) (f : Night → Night) : (s.modifyNight d f).liveCount = s.liveCount := rfl
@[simp] theorem State.modifyNight_controlQueue (s : State) (d : DeskId) (f : Night → Night) : (s.modifyNight d f).controlQueue = s.controlQueue := rfl
@[simp] theorem State.modifyNight_slotMap (s : State) (d : DeskId) (f : Night → Night) : (s.modifyNight d f).slotMap = s.slotMap := rfl
@[simp] theorem State.modifyNight_egressPos (s : State) (d : DeskId) (f : Night → Night) : (s.modifyNight d f).egressPos = s.egressPos := rfl
@[simp] theorem State.modifyNight_replyQueue (s : State) (d : DeskId) (f : Night → Night) : (s.modifyNight d f).replyQueue = s.replyQueue := rfl
@[simp] theorem State.modifyNight_lastServed (s : State) (d : DeskId) (f : Night → Night) : (s.modifyNight d f).lastServed = s.lastServed := rfl
@[simp] theorem State.modifyNight_upstreamSending (s : State) (d : DeskId) (f : Night → Night) : (s.modifyNight d f).upstreamSending = s.upstreamSending := rfl
@[simp] theorem State.modifyNight_roomSending (s : State) (d : DeskId) (f : Night → Night) : (s.modifyNight d f).roomSending = s.roomSending := rfl
@[simp] theorem State.modifyNight_stations (s : State) (d : DeskId) (f : Night → Night) : (s.modifyNight d f).stations = s.stations := rfl
@[simp] theorem State.modifyNight_flags (s : State) (d : DeskId) (f : Night → Night) : (s.modifyNight d f).flags = s.flags := rfl
@[simp] theorem State.modifyNight_noticeEnable (s : State) (d : DeskId) (f : Night → Night) : (s.modifyNight d f).noticeEnable = s.noticeEnable := rfl
@[simp] theorem State.modifyNight_counters (s : State) (d : DeskId) (f : Night → Night) : (s.modifyNight d f).counters = s.counters := rfl
@[simp] theorem State.modifyNight_pending (s : State) (d : DeskId) (f : Night → Night) : (s.modifyNight d f).pending = s.pending := rfl

@[simp] theorem State.mapNight_now (s : State) (f : DeskId → Desk → Night) : (s.mapNight f).now = s.now := by simp only [State.mapNight]
@[simp] theorem State.mapNight_station (s : State) (f : DeskId → Desk → Night) : (s.mapNight f).station = s.station := by simp only [State.mapNight]
@[simp] theorem State.mapNight_circuits (s : State) (f : DeskId → Desk → Night) : (s.mapNight f).circuits = s.circuits := by simp only [State.mapNight]
@[simp] theorem State.mapNight_wakeQueue (s : State) (f : DeskId → Desk → Night) : (s.mapNight f).wakeQueue = s.wakeQueue := by simp only [State.mapNight]
@[simp] theorem State.mapNight_slots (s : State) (f : DeskId → Desk → Night) : (s.mapNight f).slots = s.slots := by simp only [State.mapNight]
@[simp] theorem State.mapNight_blockMem (s : State) (f : DeskId → Desk → Night) : (s.mapNight f).blockMem = s.blockMem := by simp only [State.mapNight]
@[simp] theorem State.mapNight_tail (s : State) (f : DeskId → Desk → Night) : (s.mapNight f).tail = s.tail := by simp only [State.mapNight]
@[simp] theorem State.mapNight_current (s : State) (f : DeskId → Desk → Night) : (s.mapNight f).current = s.current := by simp only [State.mapNight]
@[simp] theorem State.mapNight_fill (s : State) (f : DeskId → Desk → Night) : (s.mapNight f).fill = s.fill := by simp only [State.mapNight]
@[simp] theorem State.mapNight_currentPass (s : State) (f : DeskId → Desk → Night) : (s.mapNight f).currentPass = s.currentPass := by simp only [State.mapNight]
@[simp] theorem State.mapNight_position (s : State) (f : DeskId → Desk → Night) : (s.mapNight f).position = s.position := by simp only [State.mapNight]
@[simp] theorem State.mapNight_exhausted (s : State) (f : DeskId → Desk → Night) : (s.mapNight f).exhausted = s.exhausted := by simp only [State.mapNight]
@[simp] theorem State.mapNight_repairQueue (s : State) (f : DeskId → Desk → Night) : (s.mapNight f).repairQueue = s.repairQueue := by simp only [State.mapNight]
@[simp] theorem State.mapNight_transmission (s : State) (f : DeskId → Desk → Night) : (s.mapNight f).transmission = s.transmission := by simp only [State.mapNight]
@[simp] theorem State.mapNight_repairCount (s : State) (f : DeskId → Desk → Night) : (s.mapNight f).repairCount = s.repairCount := by simp only [State.mapNight]
@[simp] theorem State.mapNight_wanted (s : State) (f : DeskId → Desk → Night) : (s.mapNight f).wanted = s.wanted := by simp only [State.mapNight]
@[simp] theorem State.mapNight_run (s : State) (f : DeskId → Desk → Night) : (s.mapNight f).run = s.run := by simp only [State.mapNight]
@[simp] theorem State.mapNight_upstreamLink (s : State) (f : DeskId → Desk → Night) : (s.mapNight f).upstreamLink = s.upstreamLink := by simp only [State.mapNight]
@[simp] theorem State.mapNight_roomLink (s : State) (f : DeskId → Desk → Night) : (s.mapNight f).roomLink = s.roomLink := by simp only [State.mapNight]
@[simp] theorem State.mapNight_toRoom (s : State) (f : DeskId → Desk → Night) : (s.mapNight f).toRoom = s.toRoom := by simp only [State.mapNight]
@[simp] theorem State.mapNight_toUpstream (s : State) (f : DeskId → Desk → Night) : (s.mapNight f).toUpstream = s.toUpstream := by simp only [State.mapNight]
@[simp] theorem State.mapNight_matchTable (s : State) (f : DeskId → Desk → Night) : (s.mapNight f).matchTable = s.matchTable := by simp only [State.mapNight]
@[simp] theorem State.mapNight_liveCount (s : State) (f : DeskId → Desk → Night) : (s.mapNight f).liveCount = s.liveCount := by simp only [State.mapNight]
@[simp] theorem State.mapNight_controlQueue (s : State) (f : DeskId → Desk → Night) : (s.mapNight f).controlQueue = s.controlQueue := by simp only [State.mapNight]
@[simp] theorem State.mapNight_slotMap (s : State) (f : DeskId → Desk → Night) : (s.mapNight f).slotMap = s.slotMap := by simp only [State.mapNight]
@[simp] theorem State.mapNight_egressPos (s : State) (f : DeskId → Desk → Night) : (s.mapNight f).egressPos = s.egressPos := by simp only [State.mapNight]
@[simp] theorem State.mapNight_replyQueue (s : State) (f : DeskId → Desk → Night) : (s.mapNight f).replyQueue = s.replyQueue := by simp only [State.mapNight]
@[simp] theorem State.mapNight_lastServed (s : State) (f : DeskId → Desk → Night) : (s.mapNight f).lastServed = s.lastServed := by simp only [State.mapNight]
@[simp] theorem State.mapNight_upstreamSending (s : State) (f : DeskId → Desk → Night) : (s.mapNight f).upstreamSending = s.upstreamSending := by simp only [State.mapNight]
@[simp] theorem State.mapNight_roomSending (s : State) (f : DeskId → Desk → Night) : (s.mapNight f).roomSending = s.roomSending := by simp only [State.mapNight]
@[simp] theorem State.mapNight_stations (s : State) (f : DeskId → Desk → Night) : (s.mapNight f).stations = s.stations := by simp only [State.mapNight]
@[simp] theorem State.mapNight_flags (s : State) (f : DeskId → Desk → Night) : (s.mapNight f).flags = s.flags := by simp only [State.mapNight]
@[simp] theorem State.mapNight_noticeEnable (s : State) (f : DeskId → Desk → Night) : (s.mapNight f).noticeEnable = s.noticeEnable := by simp only [State.mapNight]
@[simp] theorem State.mapNight_counters (s : State) (f : DeskId → Desk → Night) : (s.mapNight f).counters = s.counters := by simp only [State.mapNight]
@[simp] theorem State.mapNight_pending (s : State) (f : DeskId → Desk → Night) : (s.mapNight f).pending = s.pending := by simp only [State.mapNight]

/-! ## The Wanted List -/

/-- Everything an insertion can do (R114). -/
theorem State.insertWanted_eq (s : State) (f c : Nat) :
    s.insertWanted f c = { s with wanted := (s.insertWanted f c).wanted } := by
  unfold State.insertWanted; split <;> rfl

@[simp] theorem State.insertWanted_now (s : State) (f c : Nat) : (s.insertWanted f c).now = s.now := by rw [State.insertWanted_eq]
@[simp] theorem State.insertWanted_station (s : State) (f c : Nat) : (s.insertWanted f c).station = s.station := by rw [State.insertWanted_eq]
@[simp] theorem State.insertWanted_desks (s : State) (f c : Nat) : (s.insertWanted f c).desks = s.desks := by rw [State.insertWanted_eq]
@[simp] theorem State.insertWanted_circuits (s : State) (f c : Nat) : (s.insertWanted f c).circuits = s.circuits := by rw [State.insertWanted_eq]
@[simp] theorem State.insertWanted_wakeQueue (s : State) (f c : Nat) : (s.insertWanted f c).wakeQueue = s.wakeQueue := by rw [State.insertWanted_eq]
@[simp] theorem State.insertWanted_slots (s : State) (f c : Nat) : (s.insertWanted f c).slots = s.slots := by rw [State.insertWanted_eq]
@[simp] theorem State.insertWanted_blockMem (s : State) (f c : Nat) : (s.insertWanted f c).blockMem = s.blockMem := by rw [State.insertWanted_eq]
@[simp] theorem State.insertWanted_tail (s : State) (f c : Nat) : (s.insertWanted f c).tail = s.tail := by rw [State.insertWanted_eq]
@[simp] theorem State.insertWanted_current (s : State) (f c : Nat) : (s.insertWanted f c).current = s.current := by rw [State.insertWanted_eq]
@[simp] theorem State.insertWanted_fill (s : State) (f c : Nat) : (s.insertWanted f c).fill = s.fill := by rw [State.insertWanted_eq]
@[simp] theorem State.insertWanted_currentPass (s : State) (f c : Nat) : (s.insertWanted f c).currentPass = s.currentPass := by rw [State.insertWanted_eq]
@[simp] theorem State.insertWanted_position (s : State) (f c : Nat) : (s.insertWanted f c).position = s.position := by rw [State.insertWanted_eq]
@[simp] theorem State.insertWanted_exhausted (s : State) (f c : Nat) : (s.insertWanted f c).exhausted = s.exhausted := by rw [State.insertWanted_eq]
@[simp] theorem State.insertWanted_repairQueue (s : State) (f c : Nat) : (s.insertWanted f c).repairQueue = s.repairQueue := by rw [State.insertWanted_eq]
@[simp] theorem State.insertWanted_transmission (s : State) (f c : Nat) : (s.insertWanted f c).transmission = s.transmission := by rw [State.insertWanted_eq]
@[simp] theorem State.insertWanted_repairCount (s : State) (f c : Nat) : (s.insertWanted f c).repairCount = s.repairCount := by rw [State.insertWanted_eq]
@[simp] theorem State.insertWanted_run (s : State) (f c : Nat) : (s.insertWanted f c).run = s.run := by rw [State.insertWanted_eq]
@[simp] theorem State.insertWanted_upstreamLink (s : State) (f c : Nat) : (s.insertWanted f c).upstreamLink = s.upstreamLink := by rw [State.insertWanted_eq]
@[simp] theorem State.insertWanted_roomLink (s : State) (f c : Nat) : (s.insertWanted f c).roomLink = s.roomLink := by rw [State.insertWanted_eq]
@[simp] theorem State.insertWanted_toRoom (s : State) (f c : Nat) : (s.insertWanted f c).toRoom = s.toRoom := by rw [State.insertWanted_eq]
@[simp] theorem State.insertWanted_toUpstream (s : State) (f c : Nat) : (s.insertWanted f c).toUpstream = s.toUpstream := by rw [State.insertWanted_eq]
@[simp] theorem State.insertWanted_matchTable (s : State) (f c : Nat) : (s.insertWanted f c).matchTable = s.matchTable := by rw [State.insertWanted_eq]
@[simp] theorem State.insertWanted_liveCount (s : State) (f c : Nat) : (s.insertWanted f c).liveCount = s.liveCount := by rw [State.insertWanted_eq]
@[simp] theorem State.insertWanted_controlQueue (s : State) (f c : Nat) : (s.insertWanted f c).controlQueue = s.controlQueue := by rw [State.insertWanted_eq]
@[simp] theorem State.insertWanted_slotMap (s : State) (f c : Nat) : (s.insertWanted f c).slotMap = s.slotMap := by rw [State.insertWanted_eq]
@[simp] theorem State.insertWanted_egressPos (s : State) (f c : Nat) : (s.insertWanted f c).egressPos = s.egressPos := by rw [State.insertWanted_eq]
@[simp] theorem State.insertWanted_replyQueue (s : State) (f c : Nat) : (s.insertWanted f c).replyQueue = s.replyQueue := by rw [State.insertWanted_eq]
@[simp] theorem State.insertWanted_lastServed (s : State) (f c : Nat) : (s.insertWanted f c).lastServed = s.lastServed := by rw [State.insertWanted_eq]
@[simp] theorem State.insertWanted_upstreamSending (s : State) (f c : Nat) : (s.insertWanted f c).upstreamSending = s.upstreamSending := by rw [State.insertWanted_eq]
@[simp] theorem State.insertWanted_roomSending (s : State) (f c : Nat) : (s.insertWanted f c).roomSending = s.roomSending := by rw [State.insertWanted_eq]
@[simp] theorem State.insertWanted_stations (s : State) (f c : Nat) : (s.insertWanted f c).stations = s.stations := by rw [State.insertWanted_eq]
@[simp] theorem State.insertWanted_flags (s : State) (f c : Nat) : (s.insertWanted f c).flags = s.flags := by rw [State.insertWanted_eq]
@[simp] theorem State.insertWanted_noticeEnable (s : State) (f c : Nat) : (s.insertWanted f c).noticeEnable = s.noticeEnable := by rw [State.insertWanted_eq]
@[simp] theorem State.insertWanted_counters (s : State) (f c : Nat) : (s.insertWanted f c).counters = s.counters := by rw [State.insertWanted_eq]
@[simp] theorem State.insertWanted_pending (s : State) (f c : Nat) : (s.insertWanted f c).pending = s.pending := by rw [State.insertWanted_eq]

/-! ## The ring -/

@[simp] theorem State.dropTail_now (s : State) : (s.dropTail).now = s.now := rfl
@[simp] theorem State.dropTail_station (s : State) : (s.dropTail).station = s.station := rfl
@[simp] theorem State.dropTail_desks (s : State) : (s.dropTail).desks = s.desks := rfl
@[simp] theorem State.dropTail_circuits (s : State) : (s.dropTail).circuits = s.circuits := rfl
@[simp] theorem State.dropTail_wakeQueue (s : State) : (s.dropTail).wakeQueue = s.wakeQueue := rfl
@[simp] theorem State.dropTail_blockMem (s : State) : (s.dropTail).blockMem = s.blockMem := rfl
@[simp] theorem State.dropTail_current (s : State) : (s.dropTail).current = s.current := rfl
@[simp] theorem State.dropTail_fill (s : State) : (s.dropTail).fill = s.fill := rfl
@[simp] theorem State.dropTail_currentPass (s : State) : (s.dropTail).currentPass = s.currentPass := rfl
@[simp] theorem State.dropTail_position (s : State) : (s.dropTail).position = s.position := rfl
@[simp] theorem State.dropTail_exhausted (s : State) : (s.dropTail).exhausted = s.exhausted := rfl
@[simp] theorem State.dropTail_repairQueue (s : State) : (s.dropTail).repairQueue = s.repairQueue := rfl
@[simp] theorem State.dropTail_transmission (s : State) : (s.dropTail).transmission = s.transmission := rfl
@[simp] theorem State.dropTail_repairCount (s : State) : (s.dropTail).repairCount = s.repairCount := rfl
@[simp] theorem State.dropTail_wanted (s : State) : (s.dropTail).wanted = s.wanted := rfl
@[simp] theorem State.dropTail_run (s : State) : (s.dropTail).run = s.run := rfl
@[simp] theorem State.dropTail_upstreamLink (s : State) : (s.dropTail).upstreamLink = s.upstreamLink := rfl
@[simp] theorem State.dropTail_roomLink (s : State) : (s.dropTail).roomLink = s.roomLink := rfl
@[simp] theorem State.dropTail_toRoom (s : State) : (s.dropTail).toRoom = s.toRoom := rfl
@[simp] theorem State.dropTail_toUpstream (s : State) : (s.dropTail).toUpstream = s.toUpstream := rfl
@[simp] theorem State.dropTail_matchTable (s : State) : (s.dropTail).matchTable = s.matchTable := rfl
@[simp] theorem State.dropTail_liveCount (s : State) : (s.dropTail).liveCount = s.liveCount := rfl
@[simp] theorem State.dropTail_controlQueue (s : State) : (s.dropTail).controlQueue = s.controlQueue := rfl
@[simp] theorem State.dropTail_slotMap (s : State) : (s.dropTail).slotMap = s.slotMap := rfl
@[simp] theorem State.dropTail_egressPos (s : State) : (s.dropTail).egressPos = s.egressPos := rfl
@[simp] theorem State.dropTail_replyQueue (s : State) : (s.dropTail).replyQueue = s.replyQueue := rfl
@[simp] theorem State.dropTail_lastServed (s : State) : (s.dropTail).lastServed = s.lastServed := rfl
@[simp] theorem State.dropTail_upstreamSending (s : State) : (s.dropTail).upstreamSending = s.upstreamSending := rfl
@[simp] theorem State.dropTail_roomSending (s : State) : (s.dropTail).roomSending = s.roomSending := rfl
@[simp] theorem State.dropTail_stations (s : State) : (s.dropTail).stations = s.stations := rfl
@[simp] theorem State.dropTail_flags (s : State) : (s.dropTail).flags = s.flags := rfl
@[simp] theorem State.dropTail_noticeEnable (s : State) : (s.dropTail).noticeEnable = s.noticeEnable := rfl
@[simp] theorem State.dropTail_counters (s : State) : (s.dropTail).counters = s.counters := rfl
@[simp] theorem State.dropTail_pending (s : State) : (s.dropTail).pending = s.pending := rfl

/-- Everything the retirement check can do (R70): it empties slots and moves tail. -/
theorem State.retireUpTo_eq (n : Nat) (s : State) :
    State.retireUpTo n s = { s with slots := (State.retireUpTo n s).slots, tail := (State.retireUpTo n s).tail } := by
  induction n generalizing s with
  | zero => rfl
  | succ n ih =>
    unfold State.retireUpTo
    split
    · rw [ih]; rfl
    · rfl

theorem State.retire_eq (s : State) : s.retire = { s with slots := s.retire.slots, tail := s.retire.tail } :=
  State.retireUpTo_eq _ s

@[simp] theorem State.retire_now (s : State) : (s.retire).now = s.now := by rw [State.retire_eq]
@[simp] theorem State.retire_station (s : State) : (s.retire).station = s.station := by rw [State.retire_eq]
@[simp] theorem State.retire_desks (s : State) : (s.retire).desks = s.desks := by rw [State.retire_eq]
@[simp] theorem State.retire_circuits (s : State) : (s.retire).circuits = s.circuits := by rw [State.retire_eq]
@[simp] theorem State.retire_wakeQueue (s : State) : (s.retire).wakeQueue = s.wakeQueue := by rw [State.retire_eq]
@[simp] theorem State.retire_blockMem (s : State) : (s.retire).blockMem = s.blockMem := by rw [State.retire_eq]
@[simp] theorem State.retire_current (s : State) : (s.retire).current = s.current := by rw [State.retire_eq]
@[simp] theorem State.retire_fill (s : State) : (s.retire).fill = s.fill := by rw [State.retire_eq]
@[simp] theorem State.retire_currentPass (s : State) : (s.retire).currentPass = s.currentPass := by rw [State.retire_eq]
@[simp] theorem State.retire_position (s : State) : (s.retire).position = s.position := by rw [State.retire_eq]
@[simp] theorem State.retire_exhausted (s : State) : (s.retire).exhausted = s.exhausted := by rw [State.retire_eq]
@[simp] theorem State.retire_repairQueue (s : State) : (s.retire).repairQueue = s.repairQueue := by rw [State.retire_eq]
@[simp] theorem State.retire_transmission (s : State) : (s.retire).transmission = s.transmission := by rw [State.retire_eq]
@[simp] theorem State.retire_repairCount (s : State) : (s.retire).repairCount = s.repairCount := by rw [State.retire_eq]
@[simp] theorem State.retire_wanted (s : State) : (s.retire).wanted = s.wanted := by rw [State.retire_eq]
@[simp] theorem State.retire_run (s : State) : (s.retire).run = s.run := by rw [State.retire_eq]
@[simp] theorem State.retire_upstreamLink (s : State) : (s.retire).upstreamLink = s.upstreamLink := by rw [State.retire_eq]
@[simp] theorem State.retire_roomLink (s : State) : (s.retire).roomLink = s.roomLink := by rw [State.retire_eq]
@[simp] theorem State.retire_toRoom (s : State) : (s.retire).toRoom = s.toRoom := by rw [State.retire_eq]
@[simp] theorem State.retire_toUpstream (s : State) : (s.retire).toUpstream = s.toUpstream := by rw [State.retire_eq]
@[simp] theorem State.retire_matchTable (s : State) : (s.retire).matchTable = s.matchTable := by rw [State.retire_eq]
@[simp] theorem State.retire_liveCount (s : State) : (s.retire).liveCount = s.liveCount := by rw [State.retire_eq]
@[simp] theorem State.retire_controlQueue (s : State) : (s.retire).controlQueue = s.controlQueue := by rw [State.retire_eq]
@[simp] theorem State.retire_slotMap (s : State) : (s.retire).slotMap = s.slotMap := by rw [State.retire_eq]
@[simp] theorem State.retire_egressPos (s : State) : (s.retire).egressPos = s.egressPos := by rw [State.retire_eq]
@[simp] theorem State.retire_replyQueue (s : State) : (s.retire).replyQueue = s.replyQueue := by rw [State.retire_eq]
@[simp] theorem State.retire_lastServed (s : State) : (s.retire).lastServed = s.lastServed := by rw [State.retire_eq]
@[simp] theorem State.retire_upstreamSending (s : State) : (s.retire).upstreamSending = s.upstreamSending := by rw [State.retire_eq]
@[simp] theorem State.retire_roomSending (s : State) : (s.retire).roomSending = s.roomSending := by rw [State.retire_eq]
@[simp] theorem State.retire_stations (s : State) : (s.retire).stations = s.stations := by rw [State.retire_eq]
@[simp] theorem State.retire_flags (s : State) : (s.retire).flags = s.flags := by rw [State.retire_eq]
@[simp] theorem State.retire_noticeEnable (s : State) : (s.retire).noticeEnable = s.noticeEnable := by rw [State.retire_eq]
@[simp] theorem State.retire_counters (s : State) : (s.retire).counters = s.counters := by rw [State.retire_eq]
@[simp] theorem State.retire_pending (s : State) : (s.retire).pending = s.pending := by rw [State.retire_eq]

theorem State.leaveRing_eq (s : State) (d : DeskId) :
    s.leaveRing d = { s with slots := (s.leaveRing d).slots, tail := (s.leaveRing d).tail } := by
  unfold State.leaveRing; rw [State.retire_eq]

@[simp] theorem State.leaveRing_now (s : State) (d : DeskId) : (s.leaveRing d).now = s.now := by rw [State.leaveRing_eq]
@[simp] theorem State.leaveRing_station (s : State) (d : DeskId) : (s.leaveRing d).station = s.station := by rw [State.leaveRing_eq]
@[simp] theorem State.leaveRing_desks (s : State) (d : DeskId) : (s.leaveRing d).desks = s.desks := by rw [State.leaveRing_eq]
@[simp] theorem State.leaveRing_circuits (s : State) (d : DeskId) : (s.leaveRing d).circuits = s.circuits := by rw [State.leaveRing_eq]
@[simp] theorem State.leaveRing_wakeQueue (s : State) (d : DeskId) : (s.leaveRing d).wakeQueue = s.wakeQueue := by rw [State.leaveRing_eq]
@[simp] theorem State.leaveRing_blockMem (s : State) (d : DeskId) : (s.leaveRing d).blockMem = s.blockMem := by rw [State.leaveRing_eq]
@[simp] theorem State.leaveRing_current (s : State) (d : DeskId) : (s.leaveRing d).current = s.current := by rw [State.leaveRing_eq]
@[simp] theorem State.leaveRing_fill (s : State) (d : DeskId) : (s.leaveRing d).fill = s.fill := by rw [State.leaveRing_eq]
@[simp] theorem State.leaveRing_currentPass (s : State) (d : DeskId) : (s.leaveRing d).currentPass = s.currentPass := by rw [State.leaveRing_eq]
@[simp] theorem State.leaveRing_position (s : State) (d : DeskId) : (s.leaveRing d).position = s.position := by rw [State.leaveRing_eq]
@[simp] theorem State.leaveRing_exhausted (s : State) (d : DeskId) : (s.leaveRing d).exhausted = s.exhausted := by rw [State.leaveRing_eq]
@[simp] theorem State.leaveRing_repairQueue (s : State) (d : DeskId) : (s.leaveRing d).repairQueue = s.repairQueue := by rw [State.leaveRing_eq]
@[simp] theorem State.leaveRing_transmission (s : State) (d : DeskId) : (s.leaveRing d).transmission = s.transmission := by rw [State.leaveRing_eq]
@[simp] theorem State.leaveRing_repairCount (s : State) (d : DeskId) : (s.leaveRing d).repairCount = s.repairCount := by rw [State.leaveRing_eq]
@[simp] theorem State.leaveRing_wanted (s : State) (d : DeskId) : (s.leaveRing d).wanted = s.wanted := by rw [State.leaveRing_eq]
@[simp] theorem State.leaveRing_run (s : State) (d : DeskId) : (s.leaveRing d).run = s.run := by rw [State.leaveRing_eq]
@[simp] theorem State.leaveRing_upstreamLink (s : State) (d : DeskId) : (s.leaveRing d).upstreamLink = s.upstreamLink := by rw [State.leaveRing_eq]
@[simp] theorem State.leaveRing_roomLink (s : State) (d : DeskId) : (s.leaveRing d).roomLink = s.roomLink := by rw [State.leaveRing_eq]
@[simp] theorem State.leaveRing_toRoom (s : State) (d : DeskId) : (s.leaveRing d).toRoom = s.toRoom := by rw [State.leaveRing_eq]
@[simp] theorem State.leaveRing_toUpstream (s : State) (d : DeskId) : (s.leaveRing d).toUpstream = s.toUpstream := by rw [State.leaveRing_eq]
@[simp] theorem State.leaveRing_matchTable (s : State) (d : DeskId) : (s.leaveRing d).matchTable = s.matchTable := by rw [State.leaveRing_eq]
@[simp] theorem State.leaveRing_liveCount (s : State) (d : DeskId) : (s.leaveRing d).liveCount = s.liveCount := by rw [State.leaveRing_eq]
@[simp] theorem State.leaveRing_controlQueue (s : State) (d : DeskId) : (s.leaveRing d).controlQueue = s.controlQueue := by rw [State.leaveRing_eq]
@[simp] theorem State.leaveRing_slotMap (s : State) (d : DeskId) : (s.leaveRing d).slotMap = s.slotMap := by rw [State.leaveRing_eq]
@[simp] theorem State.leaveRing_egressPos (s : State) (d : DeskId) : (s.leaveRing d).egressPos = s.egressPos := by rw [State.leaveRing_eq]
@[simp] theorem State.leaveRing_replyQueue (s : State) (d : DeskId) : (s.leaveRing d).replyQueue = s.replyQueue := by rw [State.leaveRing_eq]
@[simp] theorem State.leaveRing_lastServed (s : State) (d : DeskId) : (s.leaveRing d).lastServed = s.lastServed := by rw [State.leaveRing_eq]
@[simp] theorem State.leaveRing_upstreamSending (s : State) (d : DeskId) : (s.leaveRing d).upstreamSending = s.upstreamSending := by rw [State.leaveRing_eq]
@[simp] theorem State.leaveRing_roomSending (s : State) (d : DeskId) : (s.leaveRing d).roomSending = s.roomSending := by rw [State.leaveRing_eq]
@[simp] theorem State.leaveRing_stations (s : State) (d : DeskId) : (s.leaveRing d).stations = s.stations := by rw [State.leaveRing_eq]
@[simp] theorem State.leaveRing_flags (s : State) (d : DeskId) : (s.leaveRing d).flags = s.flags := by rw [State.leaveRing_eq]
@[simp] theorem State.leaveRing_noticeEnable (s : State) (d : DeskId) : (s.leaveRing d).noticeEnable = s.noticeEnable := by rw [State.leaveRing_eq]
@[simp] theorem State.leaveRing_counters (s : State) (d : DeskId) : (s.leaveRing d).counters = s.counters := by rw [State.leaveRing_eq]
@[simp] theorem State.leaveRing_pending (s : State) (d : DeskId) : (s.leaveRing d).pending = s.pending := by rw [State.leaveRing_eq]

/-- Everything the discard of a FILLING block can do (R66). -/
theorem State.discardFilling_eq (s : State) :
    s.discardFilling = { s with slots := s.discardFilling.slots, counters := s.discardFilling.counters } := by
  unfold State.discardFilling; split <;> rfl

@[simp] theorem State.discardFilling_now (s : State) : (s.discardFilling).now = s.now := by rw [State.discardFilling_eq]
@[simp] theorem State.discardFilling_station (s : State) : (s.discardFilling).station = s.station := by rw [State.discardFilling_eq]
@[simp] theorem State.discardFilling_desks (s : State) : (s.discardFilling).desks = s.desks := by rw [State.discardFilling_eq]
@[simp] theorem State.discardFilling_circuits (s : State) : (s.discardFilling).circuits = s.circuits := by rw [State.discardFilling_eq]
@[simp] theorem State.discardFilling_wakeQueue (s : State) : (s.discardFilling).wakeQueue = s.wakeQueue := by rw [State.discardFilling_eq]
@[simp] theorem State.discardFilling_blockMem (s : State) : (s.discardFilling).blockMem = s.blockMem := by rw [State.discardFilling_eq]
@[simp] theorem State.discardFilling_tail (s : State) : (s.discardFilling).tail = s.tail := by rw [State.discardFilling_eq]
@[simp] theorem State.discardFilling_current (s : State) : (s.discardFilling).current = s.current := by rw [State.discardFilling_eq]
@[simp] theorem State.discardFilling_fill (s : State) : (s.discardFilling).fill = s.fill := by rw [State.discardFilling_eq]
@[simp] theorem State.discardFilling_currentPass (s : State) : (s.discardFilling).currentPass = s.currentPass := by rw [State.discardFilling_eq]
@[simp] theorem State.discardFilling_position (s : State) : (s.discardFilling).position = s.position := by rw [State.discardFilling_eq]
@[simp] theorem State.discardFilling_exhausted (s : State) : (s.discardFilling).exhausted = s.exhausted := by rw [State.discardFilling_eq]
@[simp] theorem State.discardFilling_repairQueue (s : State) : (s.discardFilling).repairQueue = s.repairQueue := by rw [State.discardFilling_eq]
@[simp] theorem State.discardFilling_transmission (s : State) : (s.discardFilling).transmission = s.transmission := by rw [State.discardFilling_eq]
@[simp] theorem State.discardFilling_repairCount (s : State) : (s.discardFilling).repairCount = s.repairCount := by rw [State.discardFilling_eq]
@[simp] theorem State.discardFilling_wanted (s : State) : (s.discardFilling).wanted = s.wanted := by rw [State.discardFilling_eq]
@[simp] theorem State.discardFilling_run (s : State) : (s.discardFilling).run = s.run := by rw [State.discardFilling_eq]
@[simp] theorem State.discardFilling_upstreamLink (s : State) : (s.discardFilling).upstreamLink = s.upstreamLink := by rw [State.discardFilling_eq]
@[simp] theorem State.discardFilling_roomLink (s : State) : (s.discardFilling).roomLink = s.roomLink := by rw [State.discardFilling_eq]
@[simp] theorem State.discardFilling_toRoom (s : State) : (s.discardFilling).toRoom = s.toRoom := by rw [State.discardFilling_eq]
@[simp] theorem State.discardFilling_toUpstream (s : State) : (s.discardFilling).toUpstream = s.toUpstream := by rw [State.discardFilling_eq]
@[simp] theorem State.discardFilling_matchTable (s : State) : (s.discardFilling).matchTable = s.matchTable := by rw [State.discardFilling_eq]
@[simp] theorem State.discardFilling_liveCount (s : State) : (s.discardFilling).liveCount = s.liveCount := by rw [State.discardFilling_eq]
@[simp] theorem State.discardFilling_controlQueue (s : State) : (s.discardFilling).controlQueue = s.controlQueue := by rw [State.discardFilling_eq]
@[simp] theorem State.discardFilling_slotMap (s : State) : (s.discardFilling).slotMap = s.slotMap := by rw [State.discardFilling_eq]
@[simp] theorem State.discardFilling_egressPos (s : State) : (s.discardFilling).egressPos = s.egressPos := by rw [State.discardFilling_eq]
@[simp] theorem State.discardFilling_replyQueue (s : State) : (s.discardFilling).replyQueue = s.replyQueue := by rw [State.discardFilling_eq]
@[simp] theorem State.discardFilling_lastServed (s : State) : (s.discardFilling).lastServed = s.lastServed := by rw [State.discardFilling_eq]
@[simp] theorem State.discardFilling_upstreamSending (s : State) : (s.discardFilling).upstreamSending = s.upstreamSending := by rw [State.discardFilling_eq]
@[simp] theorem State.discardFilling_roomSending (s : State) : (s.discardFilling).roomSending = s.roomSending := by rw [State.discardFilling_eq]
@[simp] theorem State.discardFilling_stations (s : State) : (s.discardFilling).stations = s.stations := by rw [State.discardFilling_eq]
@[simp] theorem State.discardFilling_flags (s : State) : (s.discardFilling).flags = s.flags := by rw [State.discardFilling_eq]
@[simp] theorem State.discardFilling_noticeEnable (s : State) : (s.discardFilling).noticeEnable = s.noticeEnable := by rw [State.discardFilling_eq]
@[simp] theorem State.discardFilling_pending (s : State) : (s.discardFilling).pending = s.pending := by rw [State.discardFilling_eq]

theorem State.clearRing_eq (s : State) :
    s.clearRing = { s with slots := Vector.replicate 64 Slot.empty, counters := s.discardFilling.counters } := by
  unfold State.clearRing; rw [State.discardFilling_eq]

@[simp] theorem State.clearRing_now (s : State) : (s.clearRing).now = s.now := by rw [State.clearRing_eq]
@[simp] theorem State.clearRing_station (s : State) : (s.clearRing).station = s.station := by rw [State.clearRing_eq]
@[simp] theorem State.clearRing_desks (s : State) : (s.clearRing).desks = s.desks := by rw [State.clearRing_eq]
@[simp] theorem State.clearRing_circuits (s : State) : (s.clearRing).circuits = s.circuits := by rw [State.clearRing_eq]
@[simp] theorem State.clearRing_wakeQueue (s : State) : (s.clearRing).wakeQueue = s.wakeQueue := by rw [State.clearRing_eq]
@[simp] theorem State.clearRing_blockMem (s : State) : (s.clearRing).blockMem = s.blockMem := by rw [State.clearRing_eq]
@[simp] theorem State.clearRing_tail (s : State) : (s.clearRing).tail = s.tail := by rw [State.clearRing_eq]
@[simp] theorem State.clearRing_current (s : State) : (s.clearRing).current = s.current := by rw [State.clearRing_eq]
@[simp] theorem State.clearRing_fill (s : State) : (s.clearRing).fill = s.fill := by rw [State.clearRing_eq]
@[simp] theorem State.clearRing_currentPass (s : State) : (s.clearRing).currentPass = s.currentPass := by rw [State.clearRing_eq]
@[simp] theorem State.clearRing_position (s : State) : (s.clearRing).position = s.position := by rw [State.clearRing_eq]
@[simp] theorem State.clearRing_exhausted (s : State) : (s.clearRing).exhausted = s.exhausted := by rw [State.clearRing_eq]
@[simp] theorem State.clearRing_repairQueue (s : State) : (s.clearRing).repairQueue = s.repairQueue := by rw [State.clearRing_eq]
@[simp] theorem State.clearRing_transmission (s : State) : (s.clearRing).transmission = s.transmission := by rw [State.clearRing_eq]
@[simp] theorem State.clearRing_repairCount (s : State) : (s.clearRing).repairCount = s.repairCount := by rw [State.clearRing_eq]
@[simp] theorem State.clearRing_wanted (s : State) : (s.clearRing).wanted = s.wanted := by rw [State.clearRing_eq]
@[simp] theorem State.clearRing_run (s : State) : (s.clearRing).run = s.run := by rw [State.clearRing_eq]
@[simp] theorem State.clearRing_upstreamLink (s : State) : (s.clearRing).upstreamLink = s.upstreamLink := by rw [State.clearRing_eq]
@[simp] theorem State.clearRing_roomLink (s : State) : (s.clearRing).roomLink = s.roomLink := by rw [State.clearRing_eq]
@[simp] theorem State.clearRing_toRoom (s : State) : (s.clearRing).toRoom = s.toRoom := by rw [State.clearRing_eq]
@[simp] theorem State.clearRing_toUpstream (s : State) : (s.clearRing).toUpstream = s.toUpstream := by rw [State.clearRing_eq]
@[simp] theorem State.clearRing_matchTable (s : State) : (s.clearRing).matchTable = s.matchTable := by rw [State.clearRing_eq]
@[simp] theorem State.clearRing_liveCount (s : State) : (s.clearRing).liveCount = s.liveCount := by rw [State.clearRing_eq]
@[simp] theorem State.clearRing_controlQueue (s : State) : (s.clearRing).controlQueue = s.controlQueue := by rw [State.clearRing_eq]
@[simp] theorem State.clearRing_slotMap (s : State) : (s.clearRing).slotMap = s.slotMap := by rw [State.clearRing_eq]
@[simp] theorem State.clearRing_egressPos (s : State) : (s.clearRing).egressPos = s.egressPos := by rw [State.clearRing_eq]
@[simp] theorem State.clearRing_replyQueue (s : State) : (s.clearRing).replyQueue = s.replyQueue := by rw [State.clearRing_eq]
@[simp] theorem State.clearRing_lastServed (s : State) : (s.clearRing).lastServed = s.lastServed := by rw [State.clearRing_eq]
@[simp] theorem State.clearRing_upstreamSending (s : State) : (s.clearRing).upstreamSending = s.upstreamSending := by rw [State.clearRing_eq]
@[simp] theorem State.clearRing_roomSending (s : State) : (s.clearRing).roomSending = s.roomSending := by rw [State.clearRing_eq]
@[simp] theorem State.clearRing_stations (s : State) : (s.clearRing).stations = s.stations := by rw [State.clearRing_eq]
@[simp] theorem State.clearRing_flags (s : State) : (s.clearRing).flags = s.flags := by rw [State.clearRing_eq]
@[simp] theorem State.clearRing_noticeEnable (s : State) : (s.clearRing).noticeEnable = s.noticeEnable := by rw [State.clearRing_eq]
@[simp] theorem State.clearRing_pending (s : State) : (s.clearRing).pending = s.pending := by rw [State.clearRing_eq]

@[simp] theorem State.clearRing_slots (s : State) : s.clearRing.slots = Vector.replicate 64 Slot.empty := by
  simp only [State.clearRing]

/-- Everything the RING_SPACE comparison can do (R77). -/
theorem State.ringSpace_eq (before s : State) :
    State.ringSpace before s = { s with flags := (State.ringSpace before s).flags,
                                        replyQueue := (State.ringSpace before s).replyQueue,
                                        counters := (State.ringSpace before s).counters } := by
  unfold State.ringSpace
  split
  · split
    · rw [State.raise_eq]
    · rfl
  · rfl

@[simp] theorem State.ringSpace_now (before s : State) : (State.ringSpace before s).now = s.now := by rw [State.ringSpace_eq]
@[simp] theorem State.ringSpace_station (before s : State) : (State.ringSpace before s).station = s.station := by rw [State.ringSpace_eq]
@[simp] theorem State.ringSpace_desks (before s : State) : (State.ringSpace before s).desks = s.desks := by rw [State.ringSpace_eq]
@[simp] theorem State.ringSpace_circuits (before s : State) : (State.ringSpace before s).circuits = s.circuits := by rw [State.ringSpace_eq]
@[simp] theorem State.ringSpace_wakeQueue (before s : State) : (State.ringSpace before s).wakeQueue = s.wakeQueue := by rw [State.ringSpace_eq]
@[simp] theorem State.ringSpace_slots (before s : State) : (State.ringSpace before s).slots = s.slots := by rw [State.ringSpace_eq]
@[simp] theorem State.ringSpace_blockMem (before s : State) : (State.ringSpace before s).blockMem = s.blockMem := by rw [State.ringSpace_eq]
@[simp] theorem State.ringSpace_tail (before s : State) : (State.ringSpace before s).tail = s.tail := by rw [State.ringSpace_eq]
@[simp] theorem State.ringSpace_current (before s : State) : (State.ringSpace before s).current = s.current := by rw [State.ringSpace_eq]
@[simp] theorem State.ringSpace_fill (before s : State) : (State.ringSpace before s).fill = s.fill := by rw [State.ringSpace_eq]
@[simp] theorem State.ringSpace_currentPass (before s : State) : (State.ringSpace before s).currentPass = s.currentPass := by rw [State.ringSpace_eq]
@[simp] theorem State.ringSpace_position (before s : State) : (State.ringSpace before s).position = s.position := by rw [State.ringSpace_eq]
@[simp] theorem State.ringSpace_exhausted (before s : State) : (State.ringSpace before s).exhausted = s.exhausted := by rw [State.ringSpace_eq]
@[simp] theorem State.ringSpace_repairQueue (before s : State) : (State.ringSpace before s).repairQueue = s.repairQueue := by rw [State.ringSpace_eq]
@[simp] theorem State.ringSpace_transmission (before s : State) : (State.ringSpace before s).transmission = s.transmission := by rw [State.ringSpace_eq]
@[simp] theorem State.ringSpace_repairCount (before s : State) : (State.ringSpace before s).repairCount = s.repairCount := by rw [State.ringSpace_eq]
@[simp] theorem State.ringSpace_wanted (before s : State) : (State.ringSpace before s).wanted = s.wanted := by rw [State.ringSpace_eq]
@[simp] theorem State.ringSpace_run (before s : State) : (State.ringSpace before s).run = s.run := by rw [State.ringSpace_eq]
@[simp] theorem State.ringSpace_upstreamLink (before s : State) : (State.ringSpace before s).upstreamLink = s.upstreamLink := by rw [State.ringSpace_eq]
@[simp] theorem State.ringSpace_roomLink (before s : State) : (State.ringSpace before s).roomLink = s.roomLink := by rw [State.ringSpace_eq]
@[simp] theorem State.ringSpace_toRoom (before s : State) : (State.ringSpace before s).toRoom = s.toRoom := by rw [State.ringSpace_eq]
@[simp] theorem State.ringSpace_toUpstream (before s : State) : (State.ringSpace before s).toUpstream = s.toUpstream := by rw [State.ringSpace_eq]
@[simp] theorem State.ringSpace_matchTable (before s : State) : (State.ringSpace before s).matchTable = s.matchTable := by rw [State.ringSpace_eq]
@[simp] theorem State.ringSpace_liveCount (before s : State) : (State.ringSpace before s).liveCount = s.liveCount := by rw [State.ringSpace_eq]
@[simp] theorem State.ringSpace_controlQueue (before s : State) : (State.ringSpace before s).controlQueue = s.controlQueue := by rw [State.ringSpace_eq]
@[simp] theorem State.ringSpace_slotMap (before s : State) : (State.ringSpace before s).slotMap = s.slotMap := by rw [State.ringSpace_eq]
@[simp] theorem State.ringSpace_egressPos (before s : State) : (State.ringSpace before s).egressPos = s.egressPos := by rw [State.ringSpace_eq]
@[simp] theorem State.ringSpace_lastServed (before s : State) : (State.ringSpace before s).lastServed = s.lastServed := by rw [State.ringSpace_eq]
@[simp] theorem State.ringSpace_upstreamSending (before s : State) : (State.ringSpace before s).upstreamSending = s.upstreamSending := by rw [State.ringSpace_eq]
@[simp] theorem State.ringSpace_roomSending (before s : State) : (State.ringSpace before s).roomSending = s.roomSending := by rw [State.ringSpace_eq]
@[simp] theorem State.ringSpace_stations (before s : State) : (State.ringSpace before s).stations = s.stations := by rw [State.ringSpace_eq]
@[simp] theorem State.ringSpace_noticeEnable (before s : State) : (State.ringSpace before s).noticeEnable = s.noticeEnable := by rw [State.ringSpace_eq]
@[simp] theorem State.ringSpace_pending (before s : State) : (State.ringSpace before s).pending = s.pending := by rw [State.ringSpace_eq]

/-! ## Terminal states -/

theorem State.failDesk_eq (s : State) (d : DeskId) (cause : FailCause) :
    s.failDesk d cause = { s with
      desks := (s.modifyNight d (Night.failed cause)).desks, slots := ((s.modifyNight d (Night.failed cause)).leaveRing d).slots,
      tail := ((s.modifyNight d (Night.failed cause)).leaveRing d).tail, flags := s.flags ||| EventKind.deskFailed.bit,
      replyQueue := (s.failDesk d cause).replyQueue, counters := (s.failDesk d cause).counters } := by
  unfold State.failDesk; rw [State.raise_eq, State.leaveRing_eq]; rfl

@[simp] theorem State.failDesk_now (s : State) (d : DeskId) (cause : FailCause) : (s.failDesk d cause).now = s.now := by rw [State.failDesk_eq]
@[simp] theorem State.failDesk_station (s : State) (d : DeskId) (cause : FailCause) : (s.failDesk d cause).station = s.station := by rw [State.failDesk_eq]
@[simp] theorem State.failDesk_circuits (s : State) (d : DeskId) (cause : FailCause) : (s.failDesk d cause).circuits = s.circuits := by rw [State.failDesk_eq]
@[simp] theorem State.failDesk_wakeQueue (s : State) (d : DeskId) (cause : FailCause) : (s.failDesk d cause).wakeQueue = s.wakeQueue := by rw [State.failDesk_eq]
@[simp] theorem State.failDesk_blockMem (s : State) (d : DeskId) (cause : FailCause) : (s.failDesk d cause).blockMem = s.blockMem := by rw [State.failDesk_eq]
@[simp] theorem State.failDesk_current (s : State) (d : DeskId) (cause : FailCause) : (s.failDesk d cause).current = s.current := by rw [State.failDesk_eq]
@[simp] theorem State.failDesk_fill (s : State) (d : DeskId) (cause : FailCause) : (s.failDesk d cause).fill = s.fill := by rw [State.failDesk_eq]
@[simp] theorem State.failDesk_currentPass (s : State) (d : DeskId) (cause : FailCause) : (s.failDesk d cause).currentPass = s.currentPass := by rw [State.failDesk_eq]
@[simp] theorem State.failDesk_position (s : State) (d : DeskId) (cause : FailCause) : (s.failDesk d cause).position = s.position := by rw [State.failDesk_eq]
@[simp] theorem State.failDesk_exhausted (s : State) (d : DeskId) (cause : FailCause) : (s.failDesk d cause).exhausted = s.exhausted := by rw [State.failDesk_eq]
@[simp] theorem State.failDesk_repairQueue (s : State) (d : DeskId) (cause : FailCause) : (s.failDesk d cause).repairQueue = s.repairQueue := by rw [State.failDesk_eq]
@[simp] theorem State.failDesk_transmission (s : State) (d : DeskId) (cause : FailCause) : (s.failDesk d cause).transmission = s.transmission := by rw [State.failDesk_eq]
@[simp] theorem State.failDesk_repairCount (s : State) (d : DeskId) (cause : FailCause) : (s.failDesk d cause).repairCount = s.repairCount := by rw [State.failDesk_eq]
@[simp] theorem State.failDesk_wanted (s : State) (d : DeskId) (cause : FailCause) : (s.failDesk d cause).wanted = s.wanted := by rw [State.failDesk_eq]
@[simp] theorem State.failDesk_run (s : State) (d : DeskId) (cause : FailCause) : (s.failDesk d cause).run = s.run := by rw [State.failDesk_eq]
@[simp] theorem State.failDesk_upstreamLink (s : State) (d : DeskId) (cause : FailCause) : (s.failDesk d cause).upstreamLink = s.upstreamLink := by rw [State.failDesk_eq]
@[simp] theorem State.failDesk_roomLink (s : State) (d : DeskId) (cause : FailCause) : (s.failDesk d cause).roomLink = s.roomLink := by rw [State.failDesk_eq]
@[simp] theorem State.failDesk_toRoom (s : State) (d : DeskId) (cause : FailCause) : (s.failDesk d cause).toRoom = s.toRoom := by rw [State.failDesk_eq]
@[simp] theorem State.failDesk_toUpstream (s : State) (d : DeskId) (cause : FailCause) : (s.failDesk d cause).toUpstream = s.toUpstream := by rw [State.failDesk_eq]
@[simp] theorem State.failDesk_matchTable (s : State) (d : DeskId) (cause : FailCause) : (s.failDesk d cause).matchTable = s.matchTable := by rw [State.failDesk_eq]
@[simp] theorem State.failDesk_liveCount (s : State) (d : DeskId) (cause : FailCause) : (s.failDesk d cause).liveCount = s.liveCount := by rw [State.failDesk_eq]
@[simp] theorem State.failDesk_controlQueue (s : State) (d : DeskId) (cause : FailCause) : (s.failDesk d cause).controlQueue = s.controlQueue := by rw [State.failDesk_eq]
@[simp] theorem State.failDesk_slotMap (s : State) (d : DeskId) (cause : FailCause) : (s.failDesk d cause).slotMap = s.slotMap := by rw [State.failDesk_eq]
@[simp] theorem State.failDesk_egressPos (s : State) (d : DeskId) (cause : FailCause) : (s.failDesk d cause).egressPos = s.egressPos := by rw [State.failDesk_eq]
@[simp] theorem State.failDesk_lastServed (s : State) (d : DeskId) (cause : FailCause) : (s.failDesk d cause).lastServed = s.lastServed := by rw [State.failDesk_eq]
@[simp] theorem State.failDesk_upstreamSending (s : State) (d : DeskId) (cause : FailCause) : (s.failDesk d cause).upstreamSending = s.upstreamSending := by rw [State.failDesk_eq]
@[simp] theorem State.failDesk_roomSending (s : State) (d : DeskId) (cause : FailCause) : (s.failDesk d cause).roomSending = s.roomSending := by rw [State.failDesk_eq]
@[simp] theorem State.failDesk_stations (s : State) (d : DeskId) (cause : FailCause) : (s.failDesk d cause).stations = s.stations := by rw [State.failDesk_eq]
@[simp] theorem State.failDesk_noticeEnable (s : State) (d : DeskId) (cause : FailCause) : (s.failDesk d cause).noticeEnable = s.noticeEnable := by rw [State.failDesk_eq]
@[simp] theorem State.failDesk_pending (s : State) (d : DeskId) (cause : FailCause) : (s.failDesk d cause).pending = s.pending := by rw [State.failDesk_eq]

theorem State.completeDesk_eq (s : State) (d : DeskId) :
    s.completeDesk d = { s with
      desks := (s.modifyNight d (Night.completed s.elapsed)).desks,
      slots := ((s.modifyNight d (Night.completed s.elapsed)).leaveRing d).slots,
      tail := ((s.modifyNight d (Night.completed s.elapsed)).leaveRing d).tail, flags := s.flags ||| EventKind.deskDone.bit, replyQueue := (s.completeDesk d).replyQueue,
      counters := (s.completeDesk d).counters } := by
  unfold State.completeDesk; rw [State.raise_eq, State.leaveRing_eq]; rfl

@[simp] theorem State.completeDesk_now (s : State) (d : DeskId) : (s.completeDesk d).now = s.now := by rw [State.completeDesk_eq]
@[simp] theorem State.completeDesk_station (s : State) (d : DeskId) : (s.completeDesk d).station = s.station := by rw [State.completeDesk_eq]
@[simp] theorem State.completeDesk_circuits (s : State) (d : DeskId) : (s.completeDesk d).circuits = s.circuits := by rw [State.completeDesk_eq]
@[simp] theorem State.completeDesk_wakeQueue (s : State) (d : DeskId) : (s.completeDesk d).wakeQueue = s.wakeQueue := by rw [State.completeDesk_eq]
@[simp] theorem State.completeDesk_blockMem (s : State) (d : DeskId) : (s.completeDesk d).blockMem = s.blockMem := by rw [State.completeDesk_eq]
@[simp] theorem State.completeDesk_current (s : State) (d : DeskId) : (s.completeDesk d).current = s.current := by rw [State.completeDesk_eq]
@[simp] theorem State.completeDesk_fill (s : State) (d : DeskId) : (s.completeDesk d).fill = s.fill := by rw [State.completeDesk_eq]
@[simp] theorem State.completeDesk_currentPass (s : State) (d : DeskId) : (s.completeDesk d).currentPass = s.currentPass := by rw [State.completeDesk_eq]
@[simp] theorem State.completeDesk_position (s : State) (d : DeskId) : (s.completeDesk d).position = s.position := by rw [State.completeDesk_eq]
@[simp] theorem State.completeDesk_exhausted (s : State) (d : DeskId) : (s.completeDesk d).exhausted = s.exhausted := by rw [State.completeDesk_eq]
@[simp] theorem State.completeDesk_repairQueue (s : State) (d : DeskId) : (s.completeDesk d).repairQueue = s.repairQueue := by rw [State.completeDesk_eq]
@[simp] theorem State.completeDesk_transmission (s : State) (d : DeskId) : (s.completeDesk d).transmission = s.transmission := by rw [State.completeDesk_eq]
@[simp] theorem State.completeDesk_repairCount (s : State) (d : DeskId) : (s.completeDesk d).repairCount = s.repairCount := by rw [State.completeDesk_eq]
@[simp] theorem State.completeDesk_wanted (s : State) (d : DeskId) : (s.completeDesk d).wanted = s.wanted := by rw [State.completeDesk_eq]
@[simp] theorem State.completeDesk_run (s : State) (d : DeskId) : (s.completeDesk d).run = s.run := by rw [State.completeDesk_eq]
@[simp] theorem State.completeDesk_upstreamLink (s : State) (d : DeskId) : (s.completeDesk d).upstreamLink = s.upstreamLink := by rw [State.completeDesk_eq]
@[simp] theorem State.completeDesk_roomLink (s : State) (d : DeskId) : (s.completeDesk d).roomLink = s.roomLink := by rw [State.completeDesk_eq]
@[simp] theorem State.completeDesk_toRoom (s : State) (d : DeskId) : (s.completeDesk d).toRoom = s.toRoom := by rw [State.completeDesk_eq]
@[simp] theorem State.completeDesk_toUpstream (s : State) (d : DeskId) : (s.completeDesk d).toUpstream = s.toUpstream := by rw [State.completeDesk_eq]
@[simp] theorem State.completeDesk_matchTable (s : State) (d : DeskId) : (s.completeDesk d).matchTable = s.matchTable := by rw [State.completeDesk_eq]
@[simp] theorem State.completeDesk_liveCount (s : State) (d : DeskId) : (s.completeDesk d).liveCount = s.liveCount := by rw [State.completeDesk_eq]
@[simp] theorem State.completeDesk_controlQueue (s : State) (d : DeskId) : (s.completeDesk d).controlQueue = s.controlQueue := by rw [State.completeDesk_eq]
@[simp] theorem State.completeDesk_slotMap (s : State) (d : DeskId) : (s.completeDesk d).slotMap = s.slotMap := by rw [State.completeDesk_eq]
@[simp] theorem State.completeDesk_egressPos (s : State) (d : DeskId) : (s.completeDesk d).egressPos = s.egressPos := by rw [State.completeDesk_eq]
@[simp] theorem State.completeDesk_lastServed (s : State) (d : DeskId) : (s.completeDesk d).lastServed = s.lastServed := by rw [State.completeDesk_eq]
@[simp] theorem State.completeDesk_upstreamSending (s : State) (d : DeskId) : (s.completeDesk d).upstreamSending = s.upstreamSending := by rw [State.completeDesk_eq]
@[simp] theorem State.completeDesk_roomSending (s : State) (d : DeskId) : (s.completeDesk d).roomSending = s.roomSending := by rw [State.completeDesk_eq]
@[simp] theorem State.completeDesk_stations (s : State) (d : DeskId) : (s.completeDesk d).stations = s.stations := by rw [State.completeDesk_eq]
@[simp] theorem State.completeDesk_noticeEnable (s : State) (d : DeskId) : (s.completeDesk d).noticeEnable = s.noticeEnable := by rw [State.completeDesk_eq]
@[simp] theorem State.completeDesk_pending (s : State) (d : DeskId) : (s.completeDesk d).pending = s.pending := by rw [State.completeDesk_eq]

end Sys2Proof.Machine
end

