-- ==== Sys2Proof/Laws/Requests.lean ====
section
/-! SUPPORT. How a request reaches its kind's rule: the three things that can happen to it (R149, R150, R152). -/

namespace Sys2Proof.Machine

/-- Every request command is its kind's event. -/
theorem exec_ofKind (k : ReqKind) (r : ProtocolFrame) (s : State) : exec (Instr.ofKind k r) s = .next (requestEvent k r s) := by
  cases k <;> rfl

/-- A kind's code names the kind. -/
theorem ReqKind.ofCode_code (k : ReqKind) : ReqKind.ofCode? k.code = some k := by
  cases k <;> rfl

theorem ReqKind.code_ne_identify (k : ReqKind) : (k.code != ReqKind.identify.code) = (k != .identify) := by
  cases k <;> rfl

/-- A group source, a broadcast that is not IDENTIFY, or a source the Station List does not hold: dropped. -/
theorem takeRequest_dropped (k : ReqKind) (r : ProtocolFrame) (s : State)
    (h : isGroup r.src = true ∨ (r.broadcast = true ∧ k ≠ .identify) ∨ (s.stations ≠ [] ∧ r.src ∉ s.stations)) :
    takeRequest k.code r s = s.count .managementDrops := by
  unfold takeRequest
  split
  · rfl
  · rename_i h1
    rw [if_pos]
    simp only [requestDropped, ReqKind.code_ne_identify] at h1
    rcases h with h | h | ⟨h, h'⟩
    · simp [h] at h1
    · simp [h] at h1
    · cases hs : s.stations with
      | nil => exact absurd hs h
      | cons a t => rw [hs] at h'; simp [State.stationAdmits, hs]; simpa using h'

/-- A request that is not dropped, with another version, a body beyond the frame, or a body too short: BAD_FORMAT. -/
theorem takeRequest_refused (k : ReqKind) (r : ProtocolFrame) (s : State) (hg : isGroup r.src = false)
    (hb : r.broadcast = false ∨ k = .identify) (hs : s.stations = [] ∨ r.src ∈ s.stations)
    (h : r.version ≠ 1 ∨ r.rest.length < r.bodyLen ∨ r.bodyLen < k.minBody) :
    takeRequest k.code r s = s.putReply (.response r.src k.code r.tag .badFormat []) := by
  have h1 : requestDropped k.code r = false := by
    simp only [requestDropped, ReqKind.code_ne_identify, hg]
    rcases hb with hb | hb <;> simp [hb]
  have h2 : s.stationAdmits r.src = true := by
    simp only [State.stationAdmits]
    rcases hs with hs | hs <;> simp [hs]
  unfold takeRequest
  simp only [h1, h2, ReqKind.ofCode_code]
  by_cases hv : r.version ≠ 1 ∨ r.rest.length < r.bodyLen
  · simp only [hv]; rfl
  · have : r.bodyLen < k.minBody := by tauto
    simp only [hv, this]; rfl

/-- A request that is not refused either reaches its kind's rule. -/
theorem takeRequest_taken (k : ReqKind) (r : ProtocolFrame) (s : State) (hg : isGroup r.src = false)
    (hb : r.broadcast = false ∨ k = .identify) (hs : s.stations = [] ∨ r.src ∈ s.stations)
    (hv : r.version = 1) (hf : r.bodyLen ≤ r.rest.length) (hm : k.minBody ≤ r.bodyLen) :
    takeRequest k.code r s = requestRule k r s := by
  have h1 : requestDropped k.code r = false := by
    simp only [requestDropped, ReqKind.code_ne_identify, hg]
    rcases hb with hb | hb <;> simp [hb]
  have h2 : s.stationAdmits r.src = true := by
    simp only [State.stationAdmits]
    rcases hs with hs | hs <;> simp [hs]
  unfold takeRequest
  have hv' : ¬ (r.version ≠ 1 ∨ r.rest.length < r.bodyLen) := by simp [hv]; omega
  have hm' : ¬ r.bodyLen < k.minBody := by omega
  simp only [h1, h2, ReqKind.ofCode_code, hv', hm']; rfl

/-- An admitted request of a long enough body: the arrival is counted and its kind's rule runs. -/
theorem exec_admitted {k : ReqKind} {r : ProtocolFrame} {s : State} (h : s.Admits k r) (hm : k.minBody ≤ r.bodyLen) :
    exec (Instr.ofKind k r) s = .next (requestRule k r (s.count .upstreamIn)) := by
  rw [exec_ofKind, requestEvent]
  exact congrArg _ (takeRequest_taken k r _ h.source h.destination h.station h.version h.fits hm)

/-- The body of an admitted request has the length its header gives. -/
theorem State.Admits.body_length {k : ReqKind} {r : ProtocolFrame} {s : State} (h : s.Admits k r) :
    (bodyOf r).length = r.bodyLen := by
  have := h.fits
  simp only [bodyOf, List.length_take]; omega

/-! ## Identifiers read from a body -/

theorem deskOf_val {n : Nat} {d : DeskId} (h : d.val = n) : deskOf? n = some d := by subst h; simp [deskOf?]

theorem deskOf_none {n : Nat} (h : 128 ≤ n) : deskOf? n = none := by simp [deskOf?]; omega

theorem circuitOf_val {n : Nat} {c : CircuitId} (h : c.val = n) : circuitOf? n = some c := by subst h; simp [circuitOf?]

theorem circuitOf_none {n : Nat} (h : 8 ≤ n) : circuitOf? n = none := by simp [circuitOf?]; omega

theorem entryOf_val {n : Nat} {i : Fin 32} (h : i.val = n) : entryOf? n = some i := by subst h; simp [entryOf?]

theorem entryOf_none {n : Nat} (h : 32 ≤ n) : entryOf? n = none := by simp [entryOf?]; omega

theorem fragmentOf_val {n : Nat} {i : Fin 8} (h : i.val = n) : fragmentOf? n = some i := by subst h; simp [fragmentOf?]

end Sys2Proof.Machine
end

