-- ==== Sys2Proof/Laws/Shared.lean ====
section
/-! SUPPORT. Everything each shared operation can do: an equation that names the fields it may write, every other field being the
state's before it. A statement about what an operation leaves alone is read from its equation. -/

namespace Sys2Proof.Machine

/-- Two states are equal when every field is. -/
theorem State.ext_fields {s t : State}
    (now : s.now = t.now) (station : s.station = t.station) (desks : s.desks = t.desks)
    (circuits : s.circuits = t.circuits) (wakeQueue : s.wakeQueue = t.wakeQueue) (slots : s.slots = t.slots)
    (blockMem : s.blockMem = t.blockMem) (tail : s.tail = t.tail) (current : s.current = t.current)
    (fill : s.fill = t.fill) (currentPass : s.currentPass = t.currentPass) (position : s.position = t.position)
    (exhausted : s.exhausted = t.exhausted) (repairQueue : s.repairQueue = t.repairQueue)
    (transmission : s.transmission = t.transmission) (repairCount : s.repairCount = t.repairCount)
    (wanted : s.wanted = t.wanted) (run : s.run = t.run) (upstreamLink : s.upstreamLink = t.upstreamLink)
    (roomLink : s.roomLink = t.roomLink) (toRoom : s.toRoom = t.toRoom) (toUpstream : s.toUpstream = t.toUpstream)
    (matchTable : s.matchTable = t.matchTable) (liveCount : s.liveCount = t.liveCount)
    (controlQueue : s.controlQueue = t.controlQueue) (slotMap : s.slotMap = t.slotMap)
    (egressPos : s.egressPos = t.egressPos) (replyQueue : s.replyQueue = t.replyQueue)
    (lastServed : s.lastServed = t.lastServed) (upstreamSending : s.upstreamSending = t.upstreamSending)
    (roomSending : s.roomSending = t.roomSending) (stations : s.stations = t.stations) (flags : s.flags = t.flags)
    (noticeEnable : s.noticeEnable = t.noticeEnable) (counters : s.counters = t.counters)
    (pending : s.pending = t.pending) : s = t := by
  cases s; cases t; simp_all

/-! ## Tables -/

/-- An entry of a table after one entry is replaced. -/
theorem vector_set_get {α : Type} {n : Nat} (v : Vector α n) (i j : Fin n) (x : α) :
    (v.set i x)[j] = if i = j then x else v[j] := by
  simp only [Fin.getElem_fin, Vector.getElem_set, Fin.ext_iff]

theorem vector_ofFn_get {α : Type} {n : Nat} (f : Fin n → α) (j : Fin n) : (Vector.ofFn f)[j] = f j := by
  simp

/-! ## Counters -/

/-- A raising of a counter reads the counters alone. -/
theorem State.countBy_counters_congr {s t : State} (h : s.counters = t.counters) (k : Counter) (n : Nat) :
    (s.countBy k n).counters = (t.countBy k n).counters := by simp only [State.countBy, h]

theorem State.count_counters_congr {s t : State} (h : s.counters = t.counters) (k : Counter) :
    (s.count k).counters = (t.count k).counters := State.countBy_counters_congr h k 1

/-- R66: a discard counts one when a slot is FILLING. -/
theorem State.discardFilling_counters (s : State) :
    s.discardFilling.counters = (if s.anyFilling then s.count .discards else s).counters := by
  unfold State.discardFilling
  split
  · simp only [State.count, State.countBy]
  · rfl

theorem State.clearRing_counters (s : State) :
    s.clearRing.counters = (if s.anyFilling then s.count .discards else s).counters := by
  rw [State.clearRing_eq]; exact State.discardFilling_counters s

/-! ## Circuits and wake scheduling -/

/-- Presence changes the heard desk and the Wake Queue (R36, R37). -/
theorem State.presence_eq (s : State) (src : MacAddr) :
    s.presence src = { s with desks := (s.presence src).desks, wakeQueue := (s.presence src).wakeQueue } := by
  unfold State.presence State.deskHeard State.unqueue
  split
  · split
    · split
      · split <;> rfl
      · rfl
    · rfl
  · rfl

/-- A wake changes its desk, the Wake Queue, the Control Queue and its circuit (R33). -/
theorem State.wakeDesk_eq (s : State) (info : RunInfo) (d : DeskId) :
    s.wakeDesk info d = { s with
      desks := (s.wakeDesk info d).desks, wakeQueue := (s.wakeDesk info d).wakeQueue
      controlQueue := (s.wakeDesk info d).controlQueue, circuits := (s.wakeDesk info d).circuits
      counters := (s.wakeDesk info d).counters } := by
  simp only [State.wakeDesk]
  rw [State.putControl_eq]; rfl

/-- A desk in the Wake Queue no longer. -/
def State.withoutQueued (s : State) (d : DeskId) : State := { s with wakeQueue := s.wakeQueue.filter (· != d) }

/-- What the scan does with one desk: a failure, a wake, or nothing (R31, R32). -/
theorem State.scanDesk_cases (info : RunInfo) (s : State) (failed : Bool) (d : DeskId) :
    (s.overBudget d = true ∧ State.scanDesk info (s, failed) d = ((s.withoutQueued d).failDesk d .overBudget, true)) ∨
    (s.overBudget d = false ∧ s.eligible d = true ∧ State.scanDesk info (s, failed) d = (s.wakeDesk info d, failed)) ∨
    (s.overBudget d = false ∧ s.eligible d = false ∧ State.scanDesk info (s, failed) d = (s, failed)) := by
  simp only [State.scanDesk]
  cases s.overBudget d <;> cases s.eligible d <;> simp [State.withoutQueued]

/-- What the scan may change of one desk's walk. -/
theorem State.scanDesk_eq (info : RunInfo) (acc : State × Bool) (d : DeskId) :
    (State.scanDesk info acc d).1 = { acc.1 with
      desks := (State.scanDesk info acc d).1.desks, wakeQueue := (State.scanDesk info acc d).1.wakeQueue
      controlQueue := (State.scanDesk info acc d).1.controlQueue, circuits := (State.scanDesk info acc d).1.circuits
      slots := (State.scanDesk info acc d).1.slots, tail := (State.scanDesk info acc d).1.tail
      flags := (State.scanDesk info acc d).1.flags, replyQueue := (State.scanDesk info acc d).1.replyQueue
      counters := (State.scanDesk info acc d).1.counters } := by
  obtain ⟨s, failed⟩ := acc
  rcases State.scanDesk_cases info s failed d with ⟨-, h⟩ | ⟨-, -, h⟩ | ⟨-, -, h⟩ <;> rw [h]
  · apply State.ext_fields <;> first | rfl | simp [State.withoutQueued]
  · apply State.ext_fields <;> first | rfl | (simp only; rw [State.wakeDesk_eq])

/-- The walk of the scan over any list of desks. -/
theorem State.scanFold_eq (info : RunInfo) (ds : List DeskId) (acc : State × Bool) :
    (ds.foldl (State.scanDesk info) acc).1 = { acc.1 with
      desks := (ds.foldl (State.scanDesk info) acc).1.desks, wakeQueue := (ds.foldl (State.scanDesk info) acc).1.wakeQueue
      controlQueue := (ds.foldl (State.scanDesk info) acc).1.controlQueue
      circuits := (ds.foldl (State.scanDesk info) acc).1.circuits
      slots := (ds.foldl (State.scanDesk info) acc).1.slots, tail := (ds.foldl (State.scanDesk info) acc).1.tail
      flags := (ds.foldl (State.scanDesk info) acc).1.flags
      replyQueue := (ds.foldl (State.scanDesk info) acc).1.replyQueue
      counters := (ds.foldl (State.scanDesk info) acc).1.counters } := by
  induction ds generalizing acc with
  | nil => rfl
  | cons d t ih =>
    rw [List.foldl_cons, ih]
    have h := State.scanDesk_eq info acc d
    generalize List.foldl (State.scanDesk info) (State.scanDesk info acc d) t = x
    rw [h]

/-- What a scan may change (R30 to R33). -/
theorem State.scan_eq (s : State) :
    s.scan.1 = { s with
      desks := s.scan.1.desks, wakeQueue := s.scan.1.wakeQueue, controlQueue := s.scan.1.controlQueue
      circuits := s.scan.1.circuits, slots := s.scan.1.slots, tail := s.scan.1.tail, flags := s.scan.1.flags
      replyQueue := s.scan.1.replyQueue, counters := s.scan.1.counters } := by
  unfold State.scan
  split
  · exact State.scanFold_eq _ _ _
  · rfl

/-! ## Many desks at once -/

/-- The records after every desk's night fields are changed. -/
theorem State.mapNight_desks (s : State) (f : DeskId → Desk → Night) :
    (s.mapNight f).desks = Vector.ofFn fun d => { s.desks[d] with night := f d s.desks[d] } := by
  simp only [State.mapNight]

@[simp] theorem State.mapNight_desk (s : State) (f : DeskId → Desk → Night) (d : DeskId) :
    (s.mapNight f).desks[d] = { s.desks[d] with night := f d s.desks[d] } := by
  simp [State.mapNight_desks]

/-- What the queueing of desks afresh does (R122, R126). -/
theorem State.queueDesks_eq (s : State) (ds : List DeskId) :
    s.queueDesks ds = { s with
      desks := Vector.ofFn fun d =>
        if ds.contains d then { s.desks[d] with night := { Night.idle with state := .queued } } else s.desks[d]
      wakeQueue := s.wakeQueue ++ ds } := by
  apply State.ext_fields <;> simp [State.queueDesks, State.mapNight_desks, Night.queuedAfresh]
  refine congrArg Vector.ofFn (funext fun d => ?_); split <;> rfl

/-! ## One desk -/

/-- One desk's record after its night fields are changed, and every other desk's. -/
theorem State.modifyNight_desk (s : State) (d e : DeskId) (f : Night → Night) :
    (s.modifyNight d f).desks[e] = if d = e then { s.desks[d] with night := f s.desks[d].night } else s.desks[e] := by
  simp only [State.modifyNight, vector_set_get]

theorem State.failDesk_desks (s : State) (d : DeskId) (cause : FailCause) :
    (s.failDesk d cause).desks = (s.modifyNight d (Night.failed cause)).desks := by rw [State.failDesk_eq]

theorem State.completeDesk_desks (s : State) (d : DeskId) :
    (s.completeDesk d).desks = (s.modifyNight d (Night.completed s.elapsed)).desks := by rw [State.completeDesk_eq]

/-- Every record after a desk fails (R17). -/
theorem State.failDesk_desk (s : State) (d e : DeskId) (cause : FailCause) :
    (s.failDesk d cause).desks[e] =
      if d = e then { s.desks[d] with night := s.desks[d].night.failed cause } else s.desks[e] := by
  simp only [State.failDesk_desks, State.modifyNight_desk]

/-- Every record after a desk completes (R18). -/
theorem State.completeDesk_desk (s : State) (d e : DeskId) :
    (s.completeDesk d).desks[e] =
      if d = e then { s.desks[d] with night := s.desks[d].night.completed s.elapsed } else s.desks[e] := by
  simp only [State.completeDesk_desks, State.modifyNight_desk]

/-! ## The close -/

/-- What a close may change (R129). -/
theorem State.closeRun_eq (s : State) (cause : CloseCause) :
    s.closeRun cause = { s with
      desks := (s.closeRun cause).desks, wakeQueue := (s.closeRun cause).wakeQueue, circuits := (s.closeRun cause).circuits
      repairQueue := (s.closeRun cause).repairQueue, transmission := (s.closeRun cause).transmission
      repairCount := (s.closeRun cause).repairCount, slots := (s.closeRun cause).slots
      controlQueue := (s.closeRun cause).controlQueue, run := (s.closeRun cause).run, flags := (s.closeRun cause).flags
      replyQueue := (s.closeRun cause).replyQueue, counters := (s.closeRun cause).counters } := by
  cases h : s.run <;> apply State.ext_fields <;> first | rfl | simp [State.closeRun, h]

/-- What follows an event's own work is a raising and perhaps a close (R77, R128). -/
theorem State.settle_eq (before s : State) (finished : Bool) :
    State.settle before s finished = { s with
      desks := (State.settle before s finished).desks, wakeQueue := (State.settle before s finished).wakeQueue
      circuits := (State.settle before s finished).circuits, repairQueue := (State.settle before s finished).repairQueue
      transmission := (State.settle before s finished).transmission, repairCount := (State.settle before s finished).repairCount
      slots := (State.settle before s finished).slots, controlQueue := (State.settle before s finished).controlQueue
      run := (State.settle before s finished).run, flags := (State.settle before s finished).flags
      replyQueue := (State.settle before s finished).replyQueue, counters := (State.settle before s finished).counters } := by
  unfold State.settle State.evaluateAllDone
  split
  · split
    · have h := State.closeRun_eq (State.ringSpace before s) .allDone
      generalize (State.ringSpace before s).closeRun .allDone = x at h
      rw [h, State.ringSpace_eq]
    · rw [State.ringSpace_eq]
  · rw [State.ringSpace_eq]

/-- What a scan with what follows it may change. -/
theorem State.scanAndSettle_eq (before s : State) :
    State.scanAndSettle before s = { s with
      desks := (State.scanAndSettle before s).desks, wakeQueue := (State.scanAndSettle before s).wakeQueue
      circuits := (State.scanAndSettle before s).circuits, repairQueue := (State.scanAndSettle before s).repairQueue
      transmission := (State.scanAndSettle before s).transmission, repairCount := (State.scanAndSettle before s).repairCount
      slots := (State.scanAndSettle before s).slots, tail := (State.scanAndSettle before s).tail
      controlQueue := (State.scanAndSettle before s).controlQueue
      run := (State.scanAndSettle before s).run, flags := (State.scanAndSettle before s).flags
      replyQueue := (State.scanAndSettle before s).replyQueue, counters := (State.scanAndSettle before s).counters } := by
  unfold State.scanAndSettle
  have h := State.settle_eq before s.scan.1 s.scan.2
  generalize State.settle before s.scan.1 s.scan.2 = x at h
  rw [h]
  have h := State.scan_eq s
  generalize s.scan.1 = y at h
  rw [h]

/-- An event that frees no slot raises no RING_SPACE (R77). -/
theorem State.ringSpace_of_slots {before s : State} (h : s.slots = before.slots) : State.ringSpace before s = s := by
  have he : s.emptySlots = before.emptySlots := by simp only [State.emptySlots, State.occupancy, h]
  unfold State.ringSpace
  split
  · rw [he, if_neg (by omega)]
  · rfl

/-- What a frame that crosses may change (R138). -/
theorem State.passThrough_eq (s : State) (p : Port) (frame : List Byte) :
    s.passThrough p frame = { s with
      toRoom := (s.passThrough p frame).toRoom, toUpstream := (s.passThrough p frame).toUpstream
      counters := (s.passThrough p frame).counters } := by
  unfold State.passThrough
  split
  · split <;> split <;> rfl
  · rfl

/-! ## Field by field -/

@[simp] theorem State.passThrough_now (s : State) (p : Port) (frame : List Byte) : (s.passThrough p frame).now = s.now := by rw [State.passThrough_eq]
@[simp] theorem State.passThrough_station (s : State) (p : Port) (frame : List Byte) : (s.passThrough p frame).station = s.station := by rw [State.passThrough_eq]
@[simp] theorem State.passThrough_desks (s : State) (p : Port) (frame : List Byte) : (s.passThrough p frame).desks = s.desks := by rw [State.passThrough_eq]
@[simp] theorem State.passThrough_circuits (s : State) (p : Port) (frame : List Byte) : (s.passThrough p frame).circuits = s.circuits := by rw [State.passThrough_eq]
@[simp] theorem State.passThrough_wakeQueue (s : State) (p : Port) (frame : List Byte) : (s.passThrough p frame).wakeQueue = s.wakeQueue := by rw [State.passThrough_eq]
@[simp] theorem State.passThrough_slots (s : State) (p : Port) (frame : List Byte) : (s.passThrough p frame).slots = s.slots := by rw [State.passThrough_eq]
@[simp] theorem State.passThrough_blockMem (s : State) (p : Port) (frame : List Byte) : (s.passThrough p frame).blockMem = s.blockMem := by rw [State.passThrough_eq]
@[simp] theorem State.passThrough_tail (s : State) (p : Port) (frame : List Byte) : (s.passThrough p frame).tail = s.tail := by rw [State.passThrough_eq]
@[simp] theorem State.passThrough_current (s : State) (p : Port) (frame : List Byte) : (s.passThrough p frame).current = s.current := by rw [State.passThrough_eq]
@[simp] theorem State.passThrough_fill (s : State) (p : Port) (frame : List Byte) : (s.passThrough p frame).fill = s.fill := by rw [State.passThrough_eq]
@[simp] theorem State.passThrough_currentPass (s : State) (p : Port) (frame : List Byte) : (s.passThrough p frame).currentPass = s.currentPass := by rw [State.passThrough_eq]
@[simp] theorem State.passThrough_position (s : State) (p : Port) (frame : List Byte) : (s.passThrough p frame).position = s.position := by rw [State.passThrough_eq]
@[simp] theorem State.passThrough_exhausted (s : State) (p : Port) (frame : List Byte) : (s.passThrough p frame).exhausted = s.exhausted := by rw [State.passThrough_eq]
@[simp] theorem State.passThrough_repairQueue (s : State) (p : Port) (frame : List Byte) : (s.passThrough p frame).repairQueue = s.repairQueue := by rw [State.passThrough_eq]
@[simp] theorem State.passThrough_transmission (s : State) (p : Port) (frame : List Byte) : (s.passThrough p frame).transmission = s.transmission := by rw [State.passThrough_eq]
@[simp] theorem State.passThrough_repairCount (s : State) (p : Port) (frame : List Byte) : (s.passThrough p frame).repairCount = s.repairCount := by rw [State.passThrough_eq]
@[simp] theorem State.passThrough_wanted (s : State) (p : Port) (frame : List Byte) : (s.passThrough p frame).wanted = s.wanted := by rw [State.passThrough_eq]
@[simp] theorem State.passThrough_run (s : State) (p : Port) (frame : List Byte) : (s.passThrough p frame).run = s.run := by rw [State.passThrough_eq]
@[simp] theorem State.passThrough_upstreamLink (s : State) (p : Port) (frame : List Byte) : (s.passThrough p frame).upstreamLink = s.upstreamLink := by rw [State.passThrough_eq]
@[simp] theorem State.passThrough_roomLink (s : State) (p : Port) (frame : List Byte) : (s.passThrough p frame).roomLink = s.roomLink := by rw [State.passThrough_eq]
@[simp] theorem State.passThrough_matchTable (s : State) (p : Port) (frame : List Byte) : (s.passThrough p frame).matchTable = s.matchTable := by rw [State.passThrough_eq]
@[simp] theorem State.passThrough_liveCount (s : State) (p : Port) (frame : List Byte) : (s.passThrough p frame).liveCount = s.liveCount := by rw [State.passThrough_eq]
@[simp] theorem State.passThrough_controlQueue (s : State) (p : Port) (frame : List Byte) : (s.passThrough p frame).controlQueue = s.controlQueue := by rw [State.passThrough_eq]
@[simp] theorem State.passThrough_slotMap (s : State) (p : Port) (frame : List Byte) : (s.passThrough p frame).slotMap = s.slotMap := by rw [State.passThrough_eq]
@[simp] theorem State.passThrough_egressPos (s : State) (p : Port) (frame : List Byte) : (s.passThrough p frame).egressPos = s.egressPos := by rw [State.passThrough_eq]
@[simp] theorem State.passThrough_replyQueue (s : State) (p : Port) (frame : List Byte) : (s.passThrough p frame).replyQueue = s.replyQueue := by rw [State.passThrough_eq]
@[simp] theorem State.passThrough_lastServed (s : State) (p : Port) (frame : List Byte) : (s.passThrough p frame).lastServed = s.lastServed := by rw [State.passThrough_eq]
@[simp] theorem State.passThrough_upstreamSending (s : State) (p : Port) (frame : List Byte) : (s.passThrough p frame).upstreamSending = s.upstreamSending := by rw [State.passThrough_eq]
@[simp] theorem State.passThrough_roomSending (s : State) (p : Port) (frame : List Byte) : (s.passThrough p frame).roomSending = s.roomSending := by rw [State.passThrough_eq]
@[simp] theorem State.passThrough_stations (s : State) (p : Port) (frame : List Byte) : (s.passThrough p frame).stations = s.stations := by rw [State.passThrough_eq]
@[simp] theorem State.passThrough_flags (s : State) (p : Port) (frame : List Byte) : (s.passThrough p frame).flags = s.flags := by rw [State.passThrough_eq]
@[simp] theorem State.passThrough_noticeEnable (s : State) (p : Port) (frame : List Byte) : (s.passThrough p frame).noticeEnable = s.noticeEnable := by rw [State.passThrough_eq]
@[simp] theorem State.passThrough_pending (s : State) (p : Port) (frame : List Byte) : (s.passThrough p frame).pending = s.pending := by rw [State.passThrough_eq]

@[simp] theorem State.presence_now (s : State) (src : MacAddr) : (s.presence src).now = s.now := by rw [State.presence_eq]
@[simp] theorem State.presence_station (s : State) (src : MacAddr) : (s.presence src).station = s.station := by rw [State.presence_eq]
@[simp] theorem State.presence_circuits (s : State) (src : MacAddr) : (s.presence src).circuits = s.circuits := by rw [State.presence_eq]
@[simp] theorem State.presence_slots (s : State) (src : MacAddr) : (s.presence src).slots = s.slots := by rw [State.presence_eq]
@[simp] theorem State.presence_blockMem (s : State) (src : MacAddr) : (s.presence src).blockMem = s.blockMem := by rw [State.presence_eq]
@[simp] theorem State.presence_tail (s : State) (src : MacAddr) : (s.presence src).tail = s.tail := by rw [State.presence_eq]
@[simp] theorem State.presence_current (s : State) (src : MacAddr) : (s.presence src).current = s.current := by rw [State.presence_eq]
@[simp] theorem State.presence_fill (s : State) (src : MacAddr) : (s.presence src).fill = s.fill := by rw [State.presence_eq]
@[simp] theorem State.presence_currentPass (s : State) (src : MacAddr) : (s.presence src).currentPass = s.currentPass := by rw [State.presence_eq]
@[simp] theorem State.presence_position (s : State) (src : MacAddr) : (s.presence src).position = s.position := by rw [State.presence_eq]
@[simp] theorem State.presence_exhausted (s : State) (src : MacAddr) : (s.presence src).exhausted = s.exhausted := by rw [State.presence_eq]
@[simp] theorem State.presence_repairQueue (s : State) (src : MacAddr) : (s.presence src).repairQueue = s.repairQueue := by rw [State.presence_eq]
@[simp] theorem State.presence_transmission (s : State) (src : MacAddr) : (s.presence src).transmission = s.transmission := by rw [State.presence_eq]
@[simp] theorem State.presence_repairCount (s : State) (src : MacAddr) : (s.presence src).repairCount = s.repairCount := by rw [State.presence_eq]
@[simp] theorem State.presence_wanted (s : State) (src : MacAddr) : (s.presence src).wanted = s.wanted := by rw [State.presence_eq]
@[simp] theorem State.presence_run (s : State) (src : MacAddr) : (s.presence src).run = s.run := by rw [State.presence_eq]
@[simp] theorem State.presence_upstreamLink (s : State) (src : MacAddr) : (s.presence src).upstreamLink = s.upstreamLink := by rw [State.presence_eq]
@[simp] theorem State.presence_roomLink (s : State) (src : MacAddr) : (s.presence src).roomLink = s.roomLink := by rw [State.presence_eq]
@[simp] theorem State.presence_toRoom (s : State) (src : MacAddr) : (s.presence src).toRoom = s.toRoom := by rw [State.presence_eq]
@[simp] theorem State.presence_toUpstream (s : State) (src : MacAddr) : (s.presence src).toUpstream = s.toUpstream := by rw [State.presence_eq]
@[simp] theorem State.presence_matchTable (s : State) (src : MacAddr) : (s.presence src).matchTable = s.matchTable := by rw [State.presence_eq]
@[simp] theorem State.presence_liveCount (s : State) (src : MacAddr) : (s.presence src).liveCount = s.liveCount := by rw [State.presence_eq]
@[simp] theorem State.presence_controlQueue (s : State) (src : MacAddr) : (s.presence src).controlQueue = s.controlQueue := by rw [State.presence_eq]
@[simp] theorem State.presence_slotMap (s : State) (src : MacAddr) : (s.presence src).slotMap = s.slotMap := by rw [State.presence_eq]
@[simp] theorem State.presence_egressPos (s : State) (src : MacAddr) : (s.presence src).egressPos = s.egressPos := by rw [State.presence_eq]
@[simp] theorem State.presence_replyQueue (s : State) (src : MacAddr) : (s.presence src).replyQueue = s.replyQueue := by rw [State.presence_eq]
@[simp] theorem State.presence_lastServed (s : State) (src : MacAddr) : (s.presence src).lastServed = s.lastServed := by rw [State.presence_eq]
@[simp] theorem State.presence_upstreamSending (s : State) (src : MacAddr) : (s.presence src).upstreamSending = s.upstreamSending := by rw [State.presence_eq]
@[simp] theorem State.presence_roomSending (s : State) (src : MacAddr) : (s.presence src).roomSending = s.roomSending := by rw [State.presence_eq]
@[simp] theorem State.presence_stations (s : State) (src : MacAddr) : (s.presence src).stations = s.stations := by rw [State.presence_eq]
@[simp] theorem State.presence_flags (s : State) (src : MacAddr) : (s.presence src).flags = s.flags := by rw [State.presence_eq]
@[simp] theorem State.presence_noticeEnable (s : State) (src : MacAddr) : (s.presence src).noticeEnable = s.noticeEnable := by rw [State.presence_eq]
@[simp] theorem State.presence_counters (s : State) (src : MacAddr) : (s.presence src).counters = s.counters := by rw [State.presence_eq]
@[simp] theorem State.presence_pending (s : State) (src : MacAddr) : (s.presence src).pending = s.pending := by rw [State.presence_eq]

@[simp] theorem State.scan_now (s : State) : (s.scan.1).now = s.now := by rw [State.scan_eq]
@[simp] theorem State.scan_station (s : State) : (s.scan.1).station = s.station := by rw [State.scan_eq]
@[simp] theorem State.scan_blockMem (s : State) : (s.scan.1).blockMem = s.blockMem := by rw [State.scan_eq]
@[simp] theorem State.scan_current (s : State) : (s.scan.1).current = s.current := by rw [State.scan_eq]
@[simp] theorem State.scan_fill (s : State) : (s.scan.1).fill = s.fill := by rw [State.scan_eq]
@[simp] theorem State.scan_currentPass (s : State) : (s.scan.1).currentPass = s.currentPass := by rw [State.scan_eq]
@[simp] theorem State.scan_position (s : State) : (s.scan.1).position = s.position := by rw [State.scan_eq]
@[simp] theorem State.scan_exhausted (s : State) : (s.scan.1).exhausted = s.exhausted := by rw [State.scan_eq]
@[simp] theorem State.scan_repairQueue (s : State) : (s.scan.1).repairQueue = s.repairQueue := by rw [State.scan_eq]
@[simp] theorem State.scan_transmission (s : State) : (s.scan.1).transmission = s.transmission := by rw [State.scan_eq]
@[simp] theorem State.scan_repairCount (s : State) : (s.scan.1).repairCount = s.repairCount := by rw [State.scan_eq]
@[simp] theorem State.scan_wanted (s : State) : (s.scan.1).wanted = s.wanted := by rw [State.scan_eq]
@[simp] theorem State.scan_run (s : State) : (s.scan.1).run = s.run := by rw [State.scan_eq]
@[simp] theorem State.scan_upstreamLink (s : State) : (s.scan.1).upstreamLink = s.upstreamLink := by rw [State.scan_eq]
@[simp] theorem State.scan_roomLink (s : State) : (s.scan.1).roomLink = s.roomLink := by rw [State.scan_eq]
@[simp] theorem State.scan_toRoom (s : State) : (s.scan.1).toRoom = s.toRoom := by rw [State.scan_eq]
@[simp] theorem State.scan_toUpstream (s : State) : (s.scan.1).toUpstream = s.toUpstream := by rw [State.scan_eq]
@[simp] theorem State.scan_matchTable (s : State) : (s.scan.1).matchTable = s.matchTable := by rw [State.scan_eq]
@[simp] theorem State.scan_liveCount (s : State) : (s.scan.1).liveCount = s.liveCount := by rw [State.scan_eq]
@[simp] theorem State.scan_slotMap (s : State) : (s.scan.1).slotMap = s.slotMap := by rw [State.scan_eq]
@[simp] theorem State.scan_egressPos (s : State) : (s.scan.1).egressPos = s.egressPos := by rw [State.scan_eq]
@[simp] theorem State.scan_lastServed (s : State) : (s.scan.1).lastServed = s.lastServed := by rw [State.scan_eq]
@[simp] theorem State.scan_upstreamSending (s : State) : (s.scan.1).upstreamSending = s.upstreamSending := by rw [State.scan_eq]
@[simp] theorem State.scan_roomSending (s : State) : (s.scan.1).roomSending = s.roomSending := by rw [State.scan_eq]
@[simp] theorem State.scan_stations (s : State) : (s.scan.1).stations = s.stations := by rw [State.scan_eq]
@[simp] theorem State.scan_noticeEnable (s : State) : (s.scan.1).noticeEnable = s.noticeEnable := by rw [State.scan_eq]
@[simp] theorem State.scan_pending (s : State) : (s.scan.1).pending = s.pending := by rw [State.scan_eq]

@[simp] theorem State.closeRun_now (s : State) (cause : CloseCause) : (s.closeRun cause).now = s.now := by rw [State.closeRun_eq]
@[simp] theorem State.closeRun_station (s : State) (cause : CloseCause) : (s.closeRun cause).station = s.station := by rw [State.closeRun_eq]
@[simp] theorem State.closeRun_blockMem (s : State) (cause : CloseCause) : (s.closeRun cause).blockMem = s.blockMem := by rw [State.closeRun_eq]
@[simp] theorem State.closeRun_tail (s : State) (cause : CloseCause) : (s.closeRun cause).tail = s.tail := by rw [State.closeRun_eq]
@[simp] theorem State.closeRun_current (s : State) (cause : CloseCause) : (s.closeRun cause).current = s.current := by rw [State.closeRun_eq]
@[simp] theorem State.closeRun_fill (s : State) (cause : CloseCause) : (s.closeRun cause).fill = s.fill := by rw [State.closeRun_eq]
@[simp] theorem State.closeRun_currentPass (s : State) (cause : CloseCause) : (s.closeRun cause).currentPass = s.currentPass := by rw [State.closeRun_eq]
@[simp] theorem State.closeRun_position (s : State) (cause : CloseCause) : (s.closeRun cause).position = s.position := by rw [State.closeRun_eq]
@[simp] theorem State.closeRun_exhausted (s : State) (cause : CloseCause) : (s.closeRun cause).exhausted = s.exhausted := by rw [State.closeRun_eq]
@[simp] theorem State.closeRun_wanted (s : State) (cause : CloseCause) : (s.closeRun cause).wanted = s.wanted := by rw [State.closeRun_eq]
@[simp] theorem State.closeRun_upstreamLink (s : State) (cause : CloseCause) : (s.closeRun cause).upstreamLink = s.upstreamLink := by rw [State.closeRun_eq]
@[simp] theorem State.closeRun_roomLink (s : State) (cause : CloseCause) : (s.closeRun cause).roomLink = s.roomLink := by rw [State.closeRun_eq]
@[simp] theorem State.closeRun_toRoom (s : State) (cause : CloseCause) : (s.closeRun cause).toRoom = s.toRoom := by rw [State.closeRun_eq]
@[simp] theorem State.closeRun_toUpstream (s : State) (cause : CloseCause) : (s.closeRun cause).toUpstream = s.toUpstream := by rw [State.closeRun_eq]
@[simp] theorem State.closeRun_matchTable (s : State) (cause : CloseCause) : (s.closeRun cause).matchTable = s.matchTable := by rw [State.closeRun_eq]
@[simp] theorem State.closeRun_liveCount (s : State) (cause : CloseCause) : (s.closeRun cause).liveCount = s.liveCount := by rw [State.closeRun_eq]
@[simp] theorem State.closeRun_slotMap (s : State) (cause : CloseCause) : (s.closeRun cause).slotMap = s.slotMap := by rw [State.closeRun_eq]
@[simp] theorem State.closeRun_egressPos (s : State) (cause : CloseCause) : (s.closeRun cause).egressPos = s.egressPos := by rw [State.closeRun_eq]
@[simp] theorem State.closeRun_lastServed (s : State) (cause : CloseCause) : (s.closeRun cause).lastServed = s.lastServed := by rw [State.closeRun_eq]
@[simp] theorem State.closeRun_upstreamSending (s : State) (cause : CloseCause) : (s.closeRun cause).upstreamSending = s.upstreamSending := by rw [State.closeRun_eq]
@[simp] theorem State.closeRun_roomSending (s : State) (cause : CloseCause) : (s.closeRun cause).roomSending = s.roomSending := by rw [State.closeRun_eq]
@[simp] theorem State.closeRun_stations (s : State) (cause : CloseCause) : (s.closeRun cause).stations = s.stations := by rw [State.closeRun_eq]
@[simp] theorem State.closeRun_noticeEnable (s : State) (cause : CloseCause) : (s.closeRun cause).noticeEnable = s.noticeEnable := by rw [State.closeRun_eq]
@[simp] theorem State.closeRun_pending (s : State) (cause : CloseCause) : (s.closeRun cause).pending = s.pending := by rw [State.closeRun_eq]

@[simp] theorem State.settle_now (before s : State) (finished : Bool) : (State.settle before s finished).now = s.now := by rw [State.settle_eq]
@[simp] theorem State.settle_station (before s : State) (finished : Bool) : (State.settle before s finished).station = s.station := by rw [State.settle_eq]
@[simp] theorem State.settle_blockMem (before s : State) (finished : Bool) : (State.settle before s finished).blockMem = s.blockMem := by rw [State.settle_eq]
@[simp] theorem State.settle_tail (before s : State) (finished : Bool) : (State.settle before s finished).tail = s.tail := by rw [State.settle_eq]
@[simp] theorem State.settle_current (before s : State) (finished : Bool) : (State.settle before s finished).current = s.current := by rw [State.settle_eq]
@[simp] theorem State.settle_fill (before s : State) (finished : Bool) : (State.settle before s finished).fill = s.fill := by rw [State.settle_eq]
@[simp] theorem State.settle_currentPass (before s : State) (finished : Bool) : (State.settle before s finished).currentPass = s.currentPass := by rw [State.settle_eq]
@[simp] theorem State.settle_position (before s : State) (finished : Bool) : (State.settle before s finished).position = s.position := by rw [State.settle_eq]
@[simp] theorem State.settle_exhausted (before s : State) (finished : Bool) : (State.settle before s finished).exhausted = s.exhausted := by rw [State.settle_eq]
@[simp] theorem State.settle_wanted (before s : State) (finished : Bool) : (State.settle before s finished).wanted = s.wanted := by rw [State.settle_eq]
@[simp] theorem State.settle_upstreamLink (before s : State) (finished : Bool) : (State.settle before s finished).upstreamLink = s.upstreamLink := by rw [State.settle_eq]
@[simp] theorem State.settle_roomLink (before s : State) (finished : Bool) : (State.settle before s finished).roomLink = s.roomLink := by rw [State.settle_eq]
@[simp] theorem State.settle_toRoom (before s : State) (finished : Bool) : (State.settle before s finished).toRoom = s.toRoom := by rw [State.settle_eq]
@[simp] theorem State.settle_toUpstream (before s : State) (finished : Bool) : (State.settle before s finished).toUpstream = s.toUpstream := by rw [State.settle_eq]
@[simp] theorem State.settle_matchTable (before s : State) (finished : Bool) : (State.settle before s finished).matchTable = s.matchTable := by rw [State.settle_eq]
@[simp] theorem State.settle_liveCount (before s : State) (finished : Bool) : (State.settle before s finished).liveCount = s.liveCount := by rw [State.settle_eq]
@[simp] theorem State.settle_slotMap (before s : State) (finished : Bool) : (State.settle before s finished).slotMap = s.slotMap := by rw [State.settle_eq]
@[simp] theorem State.settle_egressPos (before s : State) (finished : Bool) : (State.settle before s finished).egressPos = s.egressPos := by rw [State.settle_eq]
@[simp] theorem State.settle_lastServed (before s : State) (finished : Bool) : (State.settle before s finished).lastServed = s.lastServed := by rw [State.settle_eq]
@[simp] theorem State.settle_upstreamSending (before s : State) (finished : Bool) : (State.settle before s finished).upstreamSending = s.upstreamSending := by rw [State.settle_eq]
@[simp] theorem State.settle_roomSending (before s : State) (finished : Bool) : (State.settle before s finished).roomSending = s.roomSending := by rw [State.settle_eq]
@[simp] theorem State.settle_stations (before s : State) (finished : Bool) : (State.settle before s finished).stations = s.stations := by rw [State.settle_eq]
@[simp] theorem State.settle_noticeEnable (before s : State) (finished : Bool) : (State.settle before s finished).noticeEnable = s.noticeEnable := by rw [State.settle_eq]
@[simp] theorem State.settle_pending (before s : State) (finished : Bool) : (State.settle before s finished).pending = s.pending := by rw [State.settle_eq]

@[simp] theorem State.scanAndSettle_now (before s : State) : (State.scanAndSettle before s).now = s.now := by rw [State.scanAndSettle_eq]
@[simp] theorem State.scanAndSettle_station (before s : State) : (State.scanAndSettle before s).station = s.station := by rw [State.scanAndSettle_eq]
@[simp] theorem State.scanAndSettle_blockMem (before s : State) : (State.scanAndSettle before s).blockMem = s.blockMem := by rw [State.scanAndSettle_eq]
@[simp] theorem State.scanAndSettle_current (before s : State) : (State.scanAndSettle before s).current = s.current := by rw [State.scanAndSettle_eq]
@[simp] theorem State.scanAndSettle_fill (before s : State) : (State.scanAndSettle before s).fill = s.fill := by rw [State.scanAndSettle_eq]
@[simp] theorem State.scanAndSettle_currentPass (before s : State) : (State.scanAndSettle before s).currentPass = s.currentPass := by rw [State.scanAndSettle_eq]
@[simp] theorem State.scanAndSettle_position (before s : State) : (State.scanAndSettle before s).position = s.position := by rw [State.scanAndSettle_eq]
@[simp] theorem State.scanAndSettle_exhausted (before s : State) : (State.scanAndSettle before s).exhausted = s.exhausted := by rw [State.scanAndSettle_eq]
@[simp] theorem State.scanAndSettle_wanted (before s : State) : (State.scanAndSettle before s).wanted = s.wanted := by rw [State.scanAndSettle_eq]
@[simp] theorem State.scanAndSettle_upstreamLink (before s : State) : (State.scanAndSettle before s).upstreamLink = s.upstreamLink := by rw [State.scanAndSettle_eq]
@[simp] theorem State.scanAndSettle_roomLink (before s : State) : (State.scanAndSettle before s).roomLink = s.roomLink := by rw [State.scanAndSettle_eq]
@[simp] theorem State.scanAndSettle_toRoom (before s : State) : (State.scanAndSettle before s).toRoom = s.toRoom := by rw [State.scanAndSettle_eq]
@[simp] theorem State.scanAndSettle_toUpstream (before s : State) : (State.scanAndSettle before s).toUpstream = s.toUpstream := by rw [State.scanAndSettle_eq]
@[simp] theorem State.scanAndSettle_matchTable (before s : State) : (State.scanAndSettle before s).matchTable = s.matchTable := by rw [State.scanAndSettle_eq]
@[simp] theorem State.scanAndSettle_liveCount (before s : State) : (State.scanAndSettle before s).liveCount = s.liveCount := by rw [State.scanAndSettle_eq]
@[simp] theorem State.scanAndSettle_slotMap (before s : State) : (State.scanAndSettle before s).slotMap = s.slotMap := by rw [State.scanAndSettle_eq]
@[simp] theorem State.scanAndSettle_egressPos (before s : State) : (State.scanAndSettle before s).egressPos = s.egressPos := by rw [State.scanAndSettle_eq]
@[simp] theorem State.scanAndSettle_lastServed (before s : State) : (State.scanAndSettle before s).lastServed = s.lastServed := by rw [State.scanAndSettle_eq]
@[simp] theorem State.scanAndSettle_upstreamSending (before s : State) : (State.scanAndSettle before s).upstreamSending = s.upstreamSending := by rw [State.scanAndSettle_eq]
@[simp] theorem State.scanAndSettle_roomSending (before s : State) : (State.scanAndSettle before s).roomSending = s.roomSending := by rw [State.scanAndSettle_eq]
@[simp] theorem State.scanAndSettle_stations (before s : State) : (State.scanAndSettle before s).stations = s.stations := by rw [State.scanAndSettle_eq]
@[simp] theorem State.scanAndSettle_noticeEnable (before s : State) : (State.scanAndSettle before s).noticeEnable = s.noticeEnable := by rw [State.scanAndSettle_eq]
@[simp] theorem State.scanAndSettle_pending (before s : State) : (State.scanAndSettle before s).pending = s.pending := by rw [State.scanAndSettle_eq]

/-! ## The ring -/

/-- What a forced retirement may change (R73). -/
theorem State.forceTail_eq (s : State) (sequence : Nat) (waiting : List DeskId) :
    s.forceTail sequence waiting = { s with
      desks := (s.forceTail sequence waiting).desks, wanted := (s.forceTail sequence waiting).wanted
      repairQueue := (s.forceTail sequence waiting).repairQueue, slots := (s.forceTail sequence waiting).slots
      tail := (s.forceTail sequence waiting).tail } := by
  apply State.ext_fields <;> first | rfl | simp [State.forceTail]

/-- What the taking of a fragment may change (R64, R65). -/
theorem State.takeFragment_eq (s : State) (h : BlockHeader) (map : Vector Bool 8) (i : Fin 8) (data : List Byte) :
    (s.takeFragment h map i data).1 = { s with
      blockMem := (s.takeFragment h map i data).1.blockMem, slots := (s.takeFragment h map i data).1.slots
      fill := (s.takeFragment h map i data).1.fill, counters := (s.takeFragment h map i data).1.counters } := by
  unfold State.takeFragment State.checkBlock
  split
  · rfl
  · dsimp only
    split
    · split <;> rfl
    · rfl

/-- What a BLOCK OPEN that has passed its checks may change (R62). -/
theorem State.openBlock_eq (s : State) (info : RunInfo) (h : BlockHeader) (i : Fin 8) (data : List Byte) :
    (s.openBlock info h i data).1 = { s with
      desks := (s.openBlock info h i data).1.desks, wanted := (s.openBlock info h i data).1.wanted
      repairQueue := (s.openBlock info h i data).1.repairQueue, slots := (s.openBlock info h i data).1.slots
      tail := (s.openBlock info h i data).1.tail, fill := (s.openBlock info h i data).1.fill
      blockMem := (s.openBlock info h i data).1.blockMem, currentPass := (s.openBlock info h i data).1.currentPass
      flags := (s.openBlock info h i data).1.flags, replyQueue := (s.openBlock info h i data).1.replyQueue
      counters := (s.openBlock info h i data).1.counters } := by
  have seek : ∀ s1 s2 : State, s1.seekSlot info = some s2 → s2 = { s1 with
      desks := s2.desks, wanted := s2.wanted, repairQueue := s2.repairQueue, slots := s2.slots, tail := s2.tail } := by
    intro s1 s2 e
    unfold State.seekSlot State.lagRule at e
    split at e
    · cases e; rfl
    · split at e
      · split at e
        · cases e; exact State.forceTail_eq _ _ _
        · cases e
      · cases e
  unfold State.openBlock
  split
  · apply State.ext_fields <;> first | rfl | simp
  · next s2 e =>
    have h2 := seek _ _ e
    dsimp only
    generalize hs : State.beginPass _ h.pass = s3
    have h3 : s3 = { s2 with slots := s3.slots, currentPass := s3.currentPass, flags := s3.flags, replyQueue := s3.replyQueue, counters := s3.counters } := by
      rw [← hs]; unfold State.beginPass
      split
      · apply State.ext_fields <;> first | rfl | simp
      · rfl
    have h4 := State.takeFragment_eq s3 h (Vector.replicate 8 false) i data
    generalize (s3.takeFragment h (Vector.replicate 8 false) i data).1 = s4 at h4
    apply State.ext_fields <;> first | rfl | (rw [h4]; dsimp only; rw [h3]; dsimp only; rw [h2]; simp)

/-! ## The Stream Engine -/

/-- What the handing of a fragment may change (R86). -/
theorem State.handFragment_eq (s : State) (info : RunInfo) (t : Transmission) :
    (s.handFragment info t).1 = { s with
      transmission := (s.handFragment info t).1.transmission, slots := (s.handFragment info t).1.slots
      tail := (s.handFragment info t).1.tail, flags := (s.handFragment info t).1.flags
      replyQueue := (s.handFragment info t).1.replyQueue, counters := (s.handFragment info t).1.counters } := by
  unfold State.handFragment State.endTransmission
  split
  · dsimp only
    split
    · apply State.ext_fields <;> first | rfl | simp
    · apply State.ext_fields <;> first | rfl | simp
  · rfl

/-- What the start of a first transmission may change (R84). -/
theorem State.startFirst_eq (s : State) (info : RunInfo) :
    (s.startFirst info).1 = { s with
      slots := (s.startFirst info).1.slots, current := (s.startFirst info).1.current, tail := (s.startFirst info).1.tail
      position := (s.startFirst info).1.position, exhausted := (s.startFirst info).1.exhausted
      transmission := (s.startFirst info).1.transmission, repairCount := (s.startFirst info).1.repairCount
      flags := (s.startFirst info).1.flags, replyQueue := (s.startFirst info).1.replyQueue
      counters := (s.startFirst info).1.counters } := by
  unfold State.startFirst
  split
  · next h _ =>
    generalize hs : State.notifySent _ h = s1
    have h1 : s1 = { s with
        slots := s1.slots, current := s1.current, position := s1.position, exhausted := s1.exhausted
        repairCount := s1.repairCount, flags := s1.flags, replyQueue := s1.replyQueue, counters := s1.counters } := by
      rw [← hs]; unfold State.notifySent State.sendCurrent State.takePosition
      split <;> split <;> (apply State.ext_fields <;> first | rfl | simp)
    have h2 := State.handFragment_eq s1 info { slot := s.current, kind := .first, next := 0, cut := false }
    generalize (s1.handFragment info { slot := s.current, kind := .first, next := 0, cut := false }).1 = s2 at h2
    apply State.ext_fields <;> first | rfl | (rw [h2]; dsimp only; rw [h1])
  · rfl

/-- What the start of a repair may change (R85). -/
theorem State.startRepair_eq (s : State) (info : RunInfo) (i : SlotId) (rest : List SlotId) :
    (s.startRepair info i rest).1 = { s with
      slots := (s.startRepair info i rest).1.slots, tail := (s.startRepair info i rest).1.tail
      repairQueue := (s.startRepair info i rest).1.repairQueue, transmission := (s.startRepair info i rest).1.transmission
      repairCount := (s.startRepair info i rest).1.repairCount, flags := (s.startRepair info i rest).1.flags
      replyQueue := (s.startRepair info i rest).1.replyQueue, counters := (s.startRepair info i rest).1.counters } := by
  unfold State.startRepair
  dsimp only
  generalize ({ slot := i, kind := .repair, next := 0, cut := false } : Transmission) = t
  generalize hs : State.count _ Counter.repairs = s1
  have h1 : s1 = { s with
      slots := s1.slots, tail := s1.tail, repairQueue := s1.repairQueue, transmission := s1.transmission
      repairCount := s1.repairCount, counters := s1.counters } := by
    rw [← hs]; apply State.ext_fields <;> first | rfl | simp
  have h2 := State.handFragment_eq s1 info t
  generalize (s1.handFragment info t).1 = s2 at h2
  apply State.ext_fields <;> first | rfl | (rw [h2]; dsimp only; rw [h1])

/-- What the serving of the STREAM source may change (R83, R87). -/
theorem State.serveStream_eq (s : State) (info : RunInfo) :
    (s.serveStream info).1 = { s with
      slots := (s.serveStream info).1.slots, current := (s.serveStream info).1.current, tail := (s.serveStream info).1.tail
      position := (s.serveStream info).1.position, exhausted := (s.serveStream info).1.exhausted
      repairQueue := (s.serveStream info).1.repairQueue, transmission := (s.serveStream info).1.transmission
      repairCount := (s.serveStream info).1.repairCount, flags := (s.serveStream info).1.flags
      replyQueue := (s.serveStream info).1.replyQueue, counters := (s.serveStream info).1.counters } := by
  have repair : ∀ i rest, (s.startRepair info i rest).1 = { s with
      slots := (s.startRepair info i rest).1.slots, current := (s.startRepair info i rest).1.current
      tail := (s.startRepair info i rest).1.tail, position := (s.startRepair info i rest).1.position
      exhausted := (s.startRepair info i rest).1.exhausted, repairQueue := (s.startRepair info i rest).1.repairQueue
      transmission := (s.startRepair info i rest).1.transmission, repairCount := (s.startRepair info i rest).1.repairCount
      flags := (s.startRepair info i rest).1.flags, replyQueue := (s.startRepair info i rest).1.replyQueue
      counters := (s.startRepair info i rest).1.counters } := by
    intro i rest
    have h := State.startRepair_eq s info i rest
    generalize (s.startRepair info i rest).1 = x at h
    apply State.ext_fields <;> first | rfl | rw [h]
  have first : (s.startFirst info).1 = { s with
      slots := (s.startFirst info).1.slots, current := (s.startFirst info).1.current, tail := (s.startFirst info).1.tail
      position := (s.startFirst info).1.position, exhausted := (s.startFirst info).1.exhausted
      repairQueue := (s.startFirst info).1.repairQueue, transmission := (s.startFirst info).1.transmission
      repairCount := (s.startFirst info).1.repairCount, flags := (s.startFirst info).1.flags
      replyQueue := (s.startFirst info).1.replyQueue, counters := (s.startFirst info).1.counters } := by
    have h := State.startFirst_eq s info
    generalize (s.startFirst info).1 = x at h
    apply State.ext_fields <;> first | rfl | rw [h]
  unfold State.serveStream State.chooseBlock
  split
  · next t _ =>
    have h := State.handFragment_eq s info t
    generalize (s.handFragment info t).1 = x at h
    apply State.ext_fields <;> first | rfl | rw [h]
  · split
    · exact first
    · split
      · exact repair _ _
      · split
        · exact first
        · exact repair _ _

/-! ## Reports -/

/-- What one position of a NAK list may change (R105, R90). -/
theorem State.takeNak_eq (s : State) (position : Nat) :
    s.takeNak position = { s with
      repairQueue := (s.takeNak position).repairQueue, counters := (s.takeNak position).counters } := by
  unfold State.takeNak State.requestRepair
  split
  · split
    · rfl
    · split <;> rfl
  · rfl

end Sys2Proof.Machine
end

