-- ==== Sys2Proof/WellFormed.lean ====
section
/-! DEFINITION. When the operands of a command are ones a frame can carry (R135 and 10_frame_formats.md, "The common
header"). The machine gives every term a meaning; these checks say which terms stand for something on the wire. -/

namespace Sys2Proof

/-- R135: the MAC accepts lengths of 64 to 1522 bytes with the frame check sequence, so 60 to 1518 without it. -/
def macLengthGood (frame : List Byte) : Bool := 60 ≤ frame.length && frame.length ≤ 1518

/-- The body length field is two bytes, and what follows the header of an accepted frame is 40 to 1498 bytes. -/
def ProtocolFrame.wellFormed (r : ProtocolFrame) : Bool :=
  r.bodyLen < 65536 && 40 ≤ r.rest.length && r.rest.length ≤ 1498

/-- The operands of a command are ones that can occur on the wire (assumption log 15). -/
def Instr.wellFormed : Instr → Bool
  | .identify r => r.wellFormed
  | .deskWrite r => r.wellFormed
  | .deskRead r => r.wellFormed
  | .circuitWrite r => r.wellFormed
  | .circuitRead r => r.wellFormed
  | .matchWrite r => r.wellFormed
  | .matchRead r => r.wellFormed
  | .matchLive r => r.wellFormed
  | .slotmapWrite r => r.wellFormed
  | .slotmapRead r => r.wellFormed
  | .stationWrite r => r.wellFormed
  | .runStart r => r.wellFormed
  | .runPause r => r.wellFormed
  | .runResume r => r.wellFormed
  | .runStop r => r.wellFormed
  | .enqueue r => r.wellFormed
  | .reportRelease r => r.wellFormed
  | .blockOpen r => r.wellFormed
  | .blockMore r => r.wellFormed
  | .ringFlush r => r.wellFormed
  | .wantedRead r => r.wellFormed
  | .wantedTake r => r.wellFormed
  | .statusRead r => r.wellFormed
  | .countersRead r => r.wellFormed
  | .eventsClear r => r.wellFormed
  | .engineReset r => r.wellFormed
  | .fullReset r => r.wellFormed
  | .powerOn => true
  | .linkDown _ => true
  | .linkUp _ => true
  | .frameArrival _ _ _ => true
  | .bootDiscovery _ frame => macLengthGood frame
  | .join r => r.wellFormed
  | .report r => r.wellFormed
  | .wakeTimeoutExpiry _ => true
  | .discoveryTimeoutExpiry _ => true
  | .joinTimeoutExpiry _ => true
  | .silenceTimeoutExpiry _ => true
  | .decayStep _ => true
  | .gapExpiry _ => true
  | .windowEnd => true
  | .roomFrameOpportunity => true
  | .upstreamFrameOpportunity => true
  | .frameSent _ => true

end Sys2Proof
end

