-- ==== Sys2Proof/Tests/Slice0.lean ====
section
/-! SUPPORT. Tests of single commands, each on a small state, with expected values from the manual's examples and tables or worked
from its rules by hand; and, for each statement with hypotheses, a witness that they can be met, clause by clause where it
has several (`witness_<statement>`). -/

namespace Sys2Proof.Tests

open Sys2Proof Sys2Proof.Machine

-- one theorem at a time: the kernel evaluates whole states here, and many at once need too much memory
set_option Elab.async false

/-! ## Helpers -/

/-- The state a command leaves. -/
def after (c : Instr) (s : State) : State := match exec c s with
  | .next t => t
  | _ => s

/-- The newest frame of the reply queue, when it is a response: its status and body. -/
def answer (s : State) : Option (Status × List Byte) := match s.replyQueue.getLast? with
  | some (.response _ _ _ status body) => some (status, body)
  | _ => none

def depot : MacAddr := 0x02D000000001#48

def bytes (l : List Nat) : List Byte := l.map (BitVec.ofNat 8)

def frameOf (src : MacAddr) (body : List Byte) : ProtocolFrame :=
  { broadcast := false, src := src, version := 1, tag := 7, bodyLen := body.length, rest := padTo 40 body }

/-- A request with this body from the depot. -/
def req (l : List Nat) : ProtocolFrame := frameOf depot (bytes l)

/-- Reset with both links up. -/
def up : State := { State.reset with upstreamLink := true, roomLink := true }

def params : RunParams where
  runTag := 0x1234
  blockCount := 5000
  imageCheck := 0xDEADBEEF
  streamGroup := 0x010203040506
  bootServer := 0x0A280005
  leaseTime := 3600
  subnetMask := 0xFFFF0000
  router := 0x0A280001
  loaderName := bytes [0x6C, 0x64]
  marker := bytes [0x50, 0x56, 0x42]
  afterAction := .reboot
  noticeEnable := 0
  window := 480
  wakeTimeout := 30
  discoveryTimeout := 60
  joinTimeout := 90
  silenceTimeout := 10
  reportInterval := 5
  wakeAttemptLimit := 2
  pollLimit := 2
  restartLimit := 1
  repairBurst := 2
  lagLimit := 5000
  decayInterval := 200
  lowWater := 16

def info : RunInfo := ⟨params, depot, 0⟩

/-- A run in progress since time 0, with no desk. -/
def run (paused : Bool) : State := { up with run := .running paused info 28800000 }

/-- A run that was stopped. -/
def closed : State := { up with run := .closed info .stopped 1000 }

def addr (d : Nat) : MacAddr := BitVec.ofNat 48 (0x021A00000000 + d)

/-- Give a record an address and night fields. -/
def withDesk (s : State) (d : DeskId) (n : Night) (weight : Nat := 120) : State :=
  { s with desks := s.desks.set d ⟨⟨addr d.val, 2, weight, 0x0A28071F, true⟩, n⟩ }

/-- Give circuit 2 its fields. -/
def withCircuit (s : State) (budget decay gap load : Nat) (gapTimer decayTimer : Option Nat) : State :=
  { s with circuits := s.circuits.set 2 ⟨budget, decay, gap, load, gapTimer, decayTimer⟩ }

/-- The night fields of a desk in a state with a deadline. -/
def timed (x : DeskState) (deadline : Nat) : Night := { Night.idle with state := x, timer := some (.running deadline) }

def joined (position deadline : Nat) : Night := { timed .joined deadline with joinedPos := some position }

/-- Desk 7 JOINED in an ACTIVE run. -/
def receiving : State := withDesk (run false) 7 (joined 0 10000)

theorem padTo_length (n : Nat) (l : List Byte) : l.length ≤ (padTo n l).length := by
  simp [padTo]

/-- A request from the depot is admitted wherever the Station List is empty. -/
theorem admits (k : ReqKind) (l : List Nat) (s : State) (hs : s.stations = []) :
    s.Admits k (req l) :=
  ⟨show isGroup depot = false by decide, .inl rfl, .inl hs, rfl, padTo_length 40 _⟩

/-! ## Well-formedness: each check refuses an ill-formed term -/

theorem test_wellFormed_accepts : (Instr.deskRead (req [3])).wellFormed = true := by decide

theorem test_wellFormed_refuses_long_bodyLen : (Instr.deskRead { req [3] with bodyLen := 65536 }).wellFormed = false := by decide

theorem test_wellFormed_refuses_short_frame : (Instr.join { req [3] with rest := List.replicate 39 0 }).wellFormed = false := by
  decide

theorem test_wellFormed_refuses_long_frame :
    (Instr.blockMore { req [3] with rest := List.replicate 1499 0 }).wellFormed = false := by decide +kernel

theorem test_wellFormed_refuses_short_discovery :
    (Instr.bootDiscovery .room (List.replicate 59 0)).wellFormed = false := by decide

theorem test_wellFormed_refuses_long_discovery :
    (Instr.bootDiscovery .room (List.replicate 1519 0)).wellFormed = false := by decide +kernel

/-- No word spells a command. -/
theorem test_decodeTableWord_none : decodeTableWord 32 0 = none := by decide

/-! ## Requests -/

/-- R154. -/
theorem test_identify : answer (after (.identify (req [])) { up with station := 0x0255E3000009 }) =
    some (.ok, bytes [0x55, 0xE3, 1, 0x28, 0x41, 2, 0x55, 0xE3, 0, 0, 9, 0, 128, 0, 64, 0x20, 0, 0, 32, 0, 8, 0, 32, 0, 16]) := by
  decide +kernel

/-- R7: a weight of 0 is written as 1 and the response says CLAMPED; mask 4 names the weight alone. -/
theorem test_deskWrite_clamps : let t := after (.deskWrite (req [7, 4, 0])) (withDesk up 7 Night.idle)
    answer t = some (.clamped, bytes [7, 2, 26, 0, 0, 0, 7, 2, 1, 10, 40, 7, 31, 1]) ∧ t.desks[7].config.weight = 1 := by
  decide +kernel

/-- R6, check 8. -/
theorem test_deskWrite_duplicate : answer (after (.deskWrite (req [8, 1, 2, 26, 0, 0, 0, 7])) (withDesk up 7 Night.idle)) =
    some (.duplicateAddress, []) := by
  decide +kernel

/-- R12: in PAUSED the remaining time is reported as held. -/
theorem test_deskRead_held : (answer (after (.deskRead (req [7]))
    { withDesk (run true) 7 { timed .offered 0 with timer := some (.held 84000) } with now := 60000 })).map
      (fun x => (x.1, x.2.length, (x.2.drop 36).take 5)) = some (.ok, 46, bytes [1, 0, 1, 0x48, 0x20]) := by
  decide +kernel

/-- R24, with a gap of 450 ms running for 200 ms more; the response of a write has the same layout. -/
theorem test_circuitRead : answer (after (.circuitRead (req [2])) { withCircuit (run false) 400 64 450 292 (some 700) none with now := 500 }) =
    some (.ok, bytes [2, 1, 144, 64, 1, 194, 1, 36, 1, 1, 0, 200]) := by
  decide +kernel

/-- R23: a change of budget leaves the load as it stands; mask 1 names the budget alone. -/
theorem test_circuitWrite : let t := after (.circuitWrite (req [2, 1, 0, 210])) (withCircuit up 400 64 0 292 none none)
    (t.circuits[2]).budget = 210 ∧ (t.circuits[2]).load = 292 ∧ (t.circuits[2]).decay = 64 := by
  decide +kernel

/-- R141: an entry below the live count is not written; one at the live count is. -/
theorem test_matchWrite : let entry := fun i => [i, 0, 34] ++ [0, 0x44, 0, 0x43, 0, 0, 0, 0] ++ [255, 255, 255, 255, 0, 0, 0, 0] ++ [1, 2]
    answer (after (.matchWrite (req (entry 0))) { up with liveCount := 1 }) = some (.liveEntry, []) ∧
    ((after (.matchWrite (req (entry 1))) { up with liveCount := 1 }).matchTable[1]).action = .boot := by
  decide +kernel

/-- R142: the live count and whether the entry is live end the response. -/
theorem test_matchRead : (answer (after (.matchRead (req [3])) { up with liveCount := 3 })).map (fun x => x.2.drop 25) =
    some (bytes [3, 0]) := by
  decide +kernel

theorem test_matchLive : answer (after (.matchLive (req [33])) up) = some (.badIndex, []) ∧
    (after (.matchLive (req [32])) up).liveCount = 32 := by
  decide +kernel

/-- R146: the default map, and a write that sets the egress position to 0. -/
theorem test_slotmap : answer (after (.slotmapRead (req [])) { up with egressPos := 5 }) =
      some (.ok, bytes [2, 1, 0, 1, 0, 1, 0, 1, 2, 1, 0, 1, 0, 1, 0, 1, 5]) ∧
    (after (.slotmapWrite (req (List.replicate 16 1))) { up with egressPos := 5 }).egressPos = 0 := by
  decide +kernel

/-- R151: two equal addresses are BAD_FORMAT; one address is taken. -/
theorem test_stationWrite : let a := [2, 208, 0, 0, 0, 1]
    answer (after (.stationWrite (req ([2] ++ a ++ a))) up) = some (.badFormat, []) ∧
    (after (.stationWrite (req ([1] ++ a))) up).stations = [depot] := by
  decide +kernel

/-- The fixed part of a RUN START body with a window of 0 and a repair burst of 0, then the strings. -/
def startBody : List Nat :=
  [0x12, 0x34, 0, 0x13, 0x88, 0xDE, 0xAD, 0xBE, 0xEF, 1, 2, 3, 4, 5, 6, 10, 40, 0, 5, 0, 0, 14, 16, 255, 255, 0, 0, 10, 40, 0, 1, 0, 0,
    0, 0, 30, 60, 90, 10, 5, 2, 2, 1, 0, 19, 136, 0, 200, 16, 2, 3, 0x6C, 0x64, 0x50, 0x56, 0x42]

/-- R121, R122: the window of 0 becomes 1 minute and is clamped, the repair burst of 0 is the default 4 and is not; the enrolled desk
is queued and, its circuit having a budget, woken by the scan of the start. -/
theorem test_runStart : let t := after (.runStart (req startBody)) (withCircuit (withDesk up 7 Night.idle) 400 64 0 0 none none)
    (answer t).map Prod.fst = some .clamped ∧ t.run.info?.map (fun i => (i.params.window, i.params.repairBurst)) = some (1, 4) ∧
    t.desks[7].night.state = .waking ∧ (t.circuits[2]).load = 120 := by
  decide +kernel

/-- R124, R12: 2.5 s are left of the deadline at the pause. -/
theorem test_runPause : let t := after (.runPause (req [])) { receiving with now := 7500 }
    t.run.code = 2 ∧ t.desks[7].night.timer = some (.held 2500) := by
  decide +kernel

/-- R125, R12: the deadline is again that far off. -/
theorem test_runResume :
    (after (.runResume (req [])) { withDesk (run true) 7 { joined 0 0 with timer := some (.held 2500) } with now := 90000 }).desks[7].night.timer
      = some (.running 92500) := by
  decide +kernel

/-- R129, R130: a JOINED desk fails RUN_ENDED and the window time left is kept. -/
theorem test_runStop : let t := after (.runStop (req [])) { receiving with now := 800000 }
    answer t = some (.ok, [0]) ∧ t.run = .closed info .stopped 28000000 ∧ t.desks[7].night.failCause = some .runEnded := by
  decide +kernel

/-- R126: a FAILED desk is queued again from its IDLE values; without a budget the scan then fails it OVER_BUDGET. -/
theorem test_enqueue : let failed := { Night.idle with state := .failed, failCause := some .noWake, wakeAttempts := 2 }
    let t := after (.enqueue (req [0, 127])) (withDesk (run true) 7 failed)
    answer t = some (.ok, [1]) ∧ t.wakeQueue = [7] ∧ t.desks[7].night = { Night.idle with state := .queued } ∧
    (after (.enqueue (req [7, 7])) (withDesk (run false) 7 failed)).desks[7].night.failCause = some .overBudget := by
  decide +kernel

theorem test_reportRelease : (after (.reportRelease (req [])) closed).run = .standby := by decide +kernel

/-- A BLOCK OPEN body: a block of this length and check word, and one fragment. -/
def openBody (sequence length : Nat) (check : List Nat) (i : Nat) (data : List Nat) : List Nat :=
  [0, sequence / 256, sequence % 256, 0, length / 256, length % 256] ++ check ++ [0, i] ++ data

/-- R62 to R65, with the published check value of CRC-32 over the digits 1 to 9: a block of one fragment becomes READY. -/
theorem test_blockOpen_ready : let digits := [49, 50, 51, 52, 53, 54, 55, 56, 57]
    let t := after (.blockOpen (req (openBody 412 9 [0xCB, 0xF4, 0x39, 0x26] 0 digits))) (run false)
    answer t = some (.ok, bytes [0, 63]) ∧ t.slots[0] = .ready ⟨412, 0, 9, 0xCBF43926, false⟩ ∧ t.fill = 1 ∧
    memRead t.blockMem[0] 0 9 = bytes digits := by
  decide +kernel

/-- R65: a wrong check word empties the slot. -/
theorem test_blockOpen_badCheck : let t := after (.blockOpen (req (openBody 412 2 [0, 0, 0, 0] 0 [1, 2]))) (run false)
    answer t = some (.badCheck, bytes [0, 64]) ∧ t.slots[0] = .empty ∧ t.fill = 0 ∧ t.counter .checkFailures = 1 := by
  decide +kernel

/-- A block of two fragments with its second received, at slot 0. -/
def filling : State :=
  { run false with slots := (run false).slots.set 0 (.filling ⟨5, 0, 1030, 0, false⟩ #v[false, true, false, false, false, false, false, false]) }

/-- R63, R64: the second fragment of a block of 1030 bytes has 6 bytes, and here it is a duplicate. -/
theorem test_blockMore : answer (after (.blockMore (req [1, 0, 0, 0, 0, 0, 0])) filling) = none ∧
    (after (.blockMore (req [1, 0, 0, 0, 0, 0, 0])) filling).counter .duplicateFragments = 1 ∧
    answer (after (.blockMore (req [1, 0, 0, 0, 0, 0])) filling) = some (.badLength, []) ∧
    answer (after (.blockMore (req [2, 0])) filling) = some (.badFormat, []) := by
  decide +kernel

/-- A ring of a SENT slot awaited by desk 7, a READY slot, and nothing else. -/
def streaming (paused : Bool) : State :=
  { withDesk (run paused) 7 (joined 0 10000) with
    slots := ((run paused).slots.set 0 (.sent ⟨100, 0, 1500, 0, false⟩ 40 0 [7])).set 1 (.ready ⟨101, 0, 1000, 0, true⟩)
    tail := 0, current := 1, fill := 2, position := 41 }

/-- R75: both blocks are owed to the Wanted List as one range, and the ring is empty at fill. -/
theorem test_ringFlush : let t := after (.ringFlush (req [])) (streaming true)
    answer t = some (.ok, bytes [2, 64]) ∧ t.wanted = [⟨100, 2⟩] ∧ t.tail = 2 ∧ t.current = 2 ∧ t.slots[0] = .empty := by
  decide +kernel

/-- R116: two ranges of 8 and 40 blocks. -/
theorem test_wanted : let s := { run false with wanted := [⟨1195, 8⟩, ⟨3000, 40⟩] }
    let body := bytes [2, 0, 0, 0, 48, 0, 4, 171, 0, 0, 8, 0, 11, 184, 0, 0, 40]
    answer (after (.wantedRead (req [])) s) = some (.ok, body) ∧ (after (.wantedRead (req [])) s).wanted.length = 2 ∧
    answer (after (.wantedTake (req [])) s) = some (.ok, body) ∧ (after (.wantedTake (req [])) s).wanted = [] := by
  decide +kernel

/-- R155, R10: ACTIVE, no close cause, 28 000 000 ms left, the ring's numbers, and 127 IDLE desks and one JOINED. -/
theorem test_statusRead : answer (after (.statusRead (req [])) { streaming false with now := 800000 }) =
    some (.ok, bytes [1, 0, 0, 1, 171, 63, 0, 0, 1, 2, 2, 0, 0, 0, 0, 0, 41, 0, 0, 0, 0, 127, 0, 0, 0, 0, 1, 0, 0]) := by
  decide +kernel

/-- R157: the request's own arrival is in the values, which it then clears. -/
theorem test_countersRead : let t := after (.countersRead (req [1])) up
    answer t = some (.ok, bytes ([0, 0, 0, 1] ++ List.replicate 84 0)) ∧ t.counter .upstreamIn = 0 := by
  decide +kernel

theorem test_eventsClear : let s : State := { up with flags := 0x55 }
    answer (after (.eventsClear (req [0x0F])) s) = some (.ok, [0x50]) ∧ answer (after (.eventsClear (req [0x80])) s) = some (.badFormat, []) := by
  decide +kernel

/-- R161, R162: both resets end the run; FULL RESET clears the desks too and keeps the Station List. -/
theorem test_resets : let s := { receiving with stations := [depot] }
    let e := after (.engineReset (req [])) s
    let f := after (.fullReset (req [])) s
    e.run = .standby ∧ e.desks[7].night = Night.idle ∧ e.desks[7].config.address = addr 7 ∧
    f.run = .standby ∧ f.desks[7].config.address = 0 ∧ f.stations = [depot] ∧ f.replyQueue.length = 1 ∧
    (after .powerOn s).stations = [] := by
  decide +kernel

/-- R149, R150, R152: dropped, dropped, and answered. -/
theorem test_requests_dropped_or_refused :
    (after (.identify { req [] with src := 0x010000000001 }) up).replyQueue = [] ∧
    (after (.identify (req [])) { up with stations := [0x02D000000002] }).counter .managementDrops = 1 ∧
    answer (after (.deskRead (req [])) up) = some (.badFormat, []) ∧
    answer (after (.identify { req [] with version := 2 }) up) = some (.badFormat, []) := by
  decide +kernel

/-! ## Frames -/

/-- An Ethernet frame of 60 bytes. -/
def ether (dst src : MacAddr) (type : Nat) (payload : List Nat) : List Byte :=
  padTo 60 (macBytes dst ++ macBytes src ++ beBytes 2 type ++ bytes payload)

/-- R36, R138: a frame from a WAKING desk makes it AWAKE, and crosses. -/
theorem test_frameArrival_presence :
    let f := ether 0x0A0000000001 (addr 7) 0x86DD []
    let t := after (.frameArrival .room true f) { withDesk (run false) 7 (timed .waking 30000) with now := 11500 }
    t.desks[7].night = timed .awake 71500 ∧ t.toUpstream = [f] ∧ t.counter .roomIn = 1 := by
  decide +kernel

/-- R135: a frame with a wrong frame check sequence, and one of 59 bytes, are dropped. -/
theorem test_frameArrival_mac : let f := ether 0x0A0000000001 (addr 7) 0x86DD []
    (after (.frameArrival .room false f) up).counter .roomDropped = 1 ∧
    (after (.frameArrival .room true (f.take 59)) up).counter .roomDropped = 1 := by
  decide +kernel

/-- R137: a request as a whole frame at the Upstream port is that request, here SLOTMAP READ; for another station it crosses. -/
theorem test_frameArrival_request :
    let f := fun dst => ether dst depot 0x8F37 [1, 0x0A, 0, 7, 0, 0]
    (answer (after (.frameArrival .upstream true (f up.station)) up)).map Prod.fst = some .ok ∧
    (after (.frameArrival .upstream true (f 0x0A0000000001)) up).toRoom.length = 1 := by
  decide +kernel

/-- R139: an all-zero mask matches; a mask byte beyond the frame does not. -/
theorem test_covers : let e := { MatchEntry.initial with port := .room, offset := 56 }
    e.covers .room (ether 0 0 0 []) = true ∧ e.covers .upstream (ether 0 0 0 []) = false ∧
    { e with mask := Vector.replicate 8 255 }.covers .room (ether 0 0 0 []) = false ∧
    { e with mask := #v[255, 255, 255, 255, 0, 0, 0, 0] }.covers .room (ether 0 0 0 []) = true := by
  decide +kernel

/-- R140: the first live entry that matches decides, and its hit count rises. -/
theorem test_frameArrival_firstMatch :
    let s : State := { up with matchTable := up.matchTable.set 1 { MatchEntry.initial with action := .drop }, liveCount := 2 }
    let t := after (.frameArrival .room true (ether 1 2 0 [])) s
    (t.matchTable[0]).hits = 1 ∧ (t.matchTable[1]).hits = 0 ∧ t.toUpstream.length = 1 := by
  decide +kernel

/-- The message type, vendor class "PVB" and end options. -/
def discoverOptions : List Nat := [53, 1, 1, 60, 3, 0x50, 0x56, 0x42, 255]

/-- A boot discovery of a desk, with an IPv4 header whose checksum is worked out from the rest of it. -/
def discovery (d : Nat) (options : List Nat) : List Byte :=
  let message := bytes [1, 1, 6, 0, 0xCA, 0xFE, 0xBA, 0xBE, 0, 9, 0x80, 0] ++ List.replicate 16 0 ++ macBytes (addr d) ++ List.replicate 202 0
    ++ bytes [0x63, 0x82, 0x53, 0x63] ++ bytes options
  let header := fun c : Nat => bytes [0x45, 0] ++ beBytes 2 (28 + message.length) ++ bytes [0, 0, 0, 0, 64, 17] ++ beBytes 2 c
    ++ bytes [0, 0, 0, 0, 255, 255, 255, 255]
  macBytes broadcastAddr ++ macBytes (addr d) ++ beBytes 2 0x0800 ++ header (65535 - onesSum (header 0)) ++ beBytes 2 68 ++ beBytes 2 67
    ++ beBytes 2 (8 + message.length) ++ beBytes 2 0 ++ message

/-- What is read from that discovery. -/
def asked (d : Nat) : Discovery where
  messageType := 1
  gateway := 0
  client := addr d
  vendorClass := some (bytes [0x50, 0x56, 0x42])
  server := none
  transaction := 0xCAFEBABE
  bootFlags := 0x8000
  clientAddress := 0

theorem test_parseDiscovery : parseDiscovery (discovery 7 discoverOptions) = some (asked 7) := by decide +kernel

/-- R49: an AWAKE desk is OFFERED with its join timeout of 90 s, and the offer waits in the Control Queue. -/
theorem test_bootDiscovery_offer :
    let t := after (.bootDiscovery .room (discovery 7 discoverOptions)) { withDesk (run false) 7 (timed .awake 71500) with now := 12000 }
    t.desks[7].night = timed .offered 102000 ∧ t.controlQueue.length = 1 ∧ t.counter .bootReplies = 1 ∧ t.toUpstream = [] := by
  decide +kernel

/-- R51: at the restart limit, a JOINED desk fails RESTARTS and the discovery is handed back. -/
theorem test_bootDiscovery_restarts :
    let t := after (.bootDiscovery .room (discovery 7 discoverOptions)) (withDesk (run false) 7 { joined 0 10000 with restarts := 1 })
    t.desks[7].night.failCause = some .restarts ∧ t.toUpstream.length = 1 ∧ t.counter .bootPassBacks = 1 := by
  decide +kernel

/-- R98, R99: an OFFERED desk is admitted at the present stream position; an unknown source is refused. -/
theorem test_join : let s := { withDesk (run false) 7 (timed .offered 90000) with now := 30000, position := 43 }
    let r := fun d : Nat => frameOf (addr d) (macBytes (addr d) ++ bytes [0, 1])
    (after (.join (r 7)) s).desks[7].night = joined 43 40000 ∧
    (after (.join (r 8)) s).controlQueue = [.joinRefuse (addr 8) .unknown 1 0x1234] := by
  decide +kernel

/-- A REPORT of desk 7 with no NAKs and no ranges. -/
def reportOf (ack missing image : Nat) : ProtocolFrame := frameOf (addr 7) (beBytes 2 0x1234 ++ beBytes 4 ack ++ beBytes 3 missing ++ bytes [image, 0, 0])

/-- R104 to R107: the acknowledged slot is retired; zero missing blocks and a good image complete the desk, and the run with it. -/
theorem test_report : let t := after (.report (reportOf 41 9 0)) { streaming false with now := 5000 }
    let u := after (.report (reportOf 40 0 1)) { receiving with now := 5000 }
    t.slots[0] = .empty ∧ t.tail = 1 ∧ t.desks[7].night.missing = some 9 ∧ t.desks[7].night.timer = some (.running 15000) ∧
    u.desks[7].night.completion = some 5000 ∧ u.run.code = 3 := by
  decide +kernel

/-- R94: while the Room link is down, repair requests are taken; here a NAK of position 40, which slot 0 holds. -/
theorem test_report_linkDown :
    (after (.report (frameOf (addr 7) (beBytes 2 0x1234 ++ beBytes 4 40 ++ beBytes 3 9 ++ bytes [0, 1, 0] ++ beBytes 4 40)))
      { streaming false with roomLink := false }).repairQueue = [0] := by
  decide +kernel

/-- R164: an image status of 3 makes a REPORT malformed. -/
theorem test_report_badStatus : (after (.report (reportOf 41 9 3)) (streaming false)).counter .reportsIgnored = 1 := by
  decide +kernel

/-- R109: a COMPLETE desk is sent FINISH again. -/
theorem test_report_finishAgain :
    (after (.report (reportOf 40 0 1)) (withDesk (run false) 7 { Night.idle with state := .complete, completion := some 5 })).controlQueue =
      [.finish (addr 7) 0x1234 false .reboot] := by
  decide +kernel

/-! ## Timers -/

/-- R13: below the limit of 2 attempts the desk is queued again, and woken again by the scan as its circuit has a budget; at the limit it
fails NO_WAKE. -/
theorem test_wakeTimeoutExpiry :
    let s := fun n =>
      { withCircuit (withDesk (run false) 7 { timed .waking 30000 with wakeAttempts := n }) 400 64 0 0 none none with now := 30000 }
    (after (.wakeTimeoutExpiry 7) (s 1)).desks[7].night = { timed .waking 60000 with wakeAttempts := 2 } ∧
    (after (.wakeTimeoutExpiry 7) (s 2)).desks[7].night.failCause = some .noWake := by
  decide +kernel

theorem test_discoveryTimeoutExpiry : let s := withDesk (run false) 7 (timed .awake 60000)
    (after (.discoveryTimeoutExpiry 7) { s with now := 60000 }).desks[7].night.failCause = some .noDiscovery ∧
    (after (.discoveryTimeoutExpiry 7) { s with now := 59999 }).desks[7].night.state = .awake := by
  decide +kernel

theorem test_joinTimeoutExpiry :
    (after (.joinTimeoutExpiry 7) { withDesk (run false) 7 (timed .offered 90000) with now := 90000 }).desks[7].night.failCause
      = some .noJoin := by
  decide +kernel

/-- R16: two polls, then SILENT. -/
theorem test_silenceTimeoutExpiry : let t := after (.silenceTimeoutExpiry 7) { receiving with now := 10000 }
    t.desks[7].night = { joined 0 20000 with polls := 1 } ∧ t.controlQueue = [.poll (addr 7) 0x1234 1] ∧
    (after (.silenceTimeoutExpiry 7) { withDesk (run false) 7 { joined 0 10000 with polls := 2 } with now := 10000 }).desks[7].night.failCause
      = some .silent := by
  decide +kernel

/-- R26's example: 292 × 64 / 256 = 73 is taken off. The edge value of 65535 under 255 leaves 255. -/
theorem test_decayStep : let s := fun load decay => { withCircuit (run false) 400 decay 0 load none (some 600) with now := 600 }
    ((after (.decayStep 2) (s 292 64)).circuits[2]) = ⟨400, 64, 0, 219, none, some 800⟩ ∧
    ((after (.decayStep 2) (s 65535 255)).circuits[2]).load = 255 := by
  decide +kernel

/-- R28, R30: the expiry lets the queued desk be woken. -/
theorem test_gapExpiry :
    let s := { withCircuit (withDesk (run false) 7 { Night.idle with state := .queued }) 400 64 450 100 (some 450) (some 600) with
      now := 450, wakeQueue := [7] }
    ((after (.gapExpiry 2) s).circuits[2]) = ⟨400, 64, 450, 220, some 900, some 600⟩ ∧ (after (.gapExpiry 2) s).desks[7].night.state = .waking := by
  decide +kernel

theorem test_windowEnd : (after .windowEnd { receiving with now := 28800000 }).run = .closed info .windowEnd 0 ∧
    (after .windowEnd { receiving with now := 28799999 }).run.code = 1 := by
  decide +kernel

/-! ## Links and egress -/

/-- R134: the FIFO toward the lost port is emptied and its frames are counted at their arrival port. -/
theorem test_linkDown : let t := after (.linkDown .room) { up with toRoom := [[1], [2]], roomSending := some [3] }
    t.toRoom = [] ∧ t.roomSending = none ∧ t.counter .upstreamDropped = 2 ∧ t.counter .roomDropped = 1 ∧ t.roomLink = false := by
  decide +kernel

theorem test_linkUp : (after (.linkUp .room) State.reset).roomLink = true ∧ (after (.linkUp .room) State.reset).upstreamLink = false := by
  decide +kernel

/-- R84: the READY slot at current is sent as the next position, with the desks JOINED now; entry 1 of the default map is STREAM. -/
theorem test_roomFrameOpportunity_first : let t := after .roomFrameOpportunity { streaming false with egressPos := 1, now := 77 }
    t.slots[1] = .sent ⟨101, 0, 1000, 0, true⟩ 41 77 [7] ∧ t.current = 2 ∧ t.position = 42 ∧ t.egressPos = 2 ∧
    t.counter .firstTransmissions = 1 ∧ t.roomSending.map List.length = some 1039 ∧ t.flags = 0x18 := by
  decide +kernel

/-- R85: below the burst the Repair Queue goes first; the block of 1500 bytes has a second fragment. -/
theorem test_roomFrameOpportunity_repair : let t := after .roomFrameOpportunity { streaming false with egressPos := 1, repairQueue := [0] }
    t.repairQueue = [] ∧ t.transmission = some ⟨0, .repair, 1, false⟩ ∧ t.repairCount = 1 := by
  decide +kernel

/-- R145: an entry that names an empty source falls to CONTROL. -/
theorem test_roomFrameOpportunity_control : let s := { up with egressPos := 1, controlQueue := [.poll (addr 7) 0x1234 1] }
    let t := after .roomFrameOpportunity s
    t.controlQueue = [] ∧ (t.roomSending.map fun f => f.take 23) =
      some (macBytes (addr 7) ++ macBytes s.station ++ bytes [0x8F, 0x37, 1, 0x45, 0, 0, 0, 3, 0x12, 0x34, 1]) := by
  decide +kernel

/-- R147: the two sources alternate. -/
theorem test_upstreamFrameOpportunity :
    let s := { up with toUpstream := [[1]], replyQueue := [.notice depot 0x1234 .blockSent [0, 0, 1, 0]] }
    let t := after .upstreamFrameOpportunity s
    t.replyQueue = [] ∧ t.toUpstream = [[1]] ∧ (t.upstreamSending.map List.length) = some 60 ∧
    (after .upstreamFrameOpportunity { s with lastServed := .reply }).upstreamSending = some [1] := by
  decide +kernel

theorem test_frameSent : let t := after (.frameSent .upstream) { up with upstreamSending := some [1] }
    t.upstreamSending = none ∧ t.counter .upstreamOut = 1 := by
  decide +kernel

/-- A step runs the front command; an empty queue with nothing due idles. -/
theorem test_step : ((match step { State.reset with pending := [.linkUp .room, .linkUp .upstream] } with
      | .next t => (t.roomLink, t.upstreamLink, t.pending.length)
      | _ => (false, false, 0)) = (true, false, 1)) := by
  decide +kernel

/-! ## Witnesses: the hypotheses of each statement that has any, met together by a concrete state and operands -/

theorem witness_RequestsDroppedOrRefused :
    isGroup { req [] with src := 0x010000000001 }.src = true ∧
    { req [] with broadcast := true }.broadcast = true ∧ ReqKind.deskRead ≠ .identify ∧
    (let s := { up with stations := [0x02D000000002] }; s.stations ≠ [] ∧ (req []).src ∉ s.stations) ∧
    (let r := { req [] with version := 2 }
     isGroup r.src = false ∧ r.broadcast = false ∧ up.stations = [] ∧ r.version ≠ 1) ∧
    { req [] with bodyLen := 41 }.rest.length < 41 ∧ (req []).bodyLen < ReqKind.deskRead.minBody := by
  decide +kernel

theorem witness_FrameArrivalTakenOut :
    (∀ kind ∈ [0x0A, 0x41, 0x44, 0x00, 0x1C], let f := ether up.station depot 0x8F37 [1, kind, 0, 7, 0, 0]
      60 ≤ f.length ∧ f.length ≤ 1518 ∧ beNat f 12 2 = 0x8F37 ∧ macAt f 0 = up.station ∧ up.station ≠ broadcastAddr ∧
      isGroup (macAt f 6) = false ∧ up.stations = [] ∧ byteAt f 14 = 1 ∧
      beNat f 18 2 + 20 ≤ f.length ∧ byteAt f 15 = BitVec.ofNat 8 kind) ∧
    ReqKind.slotmapRead.code = 0x0A := by
  decide +kernel

/-- A request of kind 0x1C that is broadcast, from a group address, from outside the Station List, of version 2, and with a body length of
40 and of 41 in a frame of 60 bytes. -/
theorem witness_FrameArrivalTakenOut_unknownKind :
    let f := fun (dst src : MacAddr) (version bodyLen : Nat) => ether dst src 0x8F37 [version, 0x1C, 0, 7, 0, bodyLen]
    (∀ x ∈ [f broadcastAddr depot 1 0, f up.station 0x010000000001 1 0, f up.station depot 2 0, f up.station depot 1 41,
        f up.station depot 1 40], 60 ≤ x.length ∧ x.length ≤ 1518 ∧ beNat x 12 2 = 0x8F37 ∧ byteAt x 15 = 0x1C) ∧
    macAt (f broadcastAddr depot 1 0) 0 = broadcastAddr ∧ macAt (f up.station depot 1 41) 0 = up.station ∧
    isGroup (macAt (f up.station 0x010000000001 1 0) 6) = true ∧ isGroup (macAt (f up.station depot 1 41) 6) = false ∧
    macAt (f up.station depot 1 41) 6 ∉ { up with stations := [0x02D000000002] }.stations ∧
    byteAt (f up.station depot 2 0) 14 ≠ 1 ∧ (f up.station depot 1 41).length < beNat (f up.station depot 1 41) 18 2 + 20 ∧
    beNat (f up.station depot 1 40) 18 2 + 20 ≤ (f up.station depot 1 40).length := by
  decide +kernel

/-- A Match Table of one entry that decides every frame. -/
def deciding (a : MatchAction) : State :=
  { up with matchTable := up.matchTable.set 0 { MatchEntry.initial with action := a }, liveCount := 1 }

/-- A frame of 60 bytes that no protocol takes out. -/
def plain : List Byte := ether 0x0A0000000001 0x0A0000000002 0x86DD []

theorem witness_FrameArrivalClassified :
    (List.replicate 59 (0 : Byte)).length < 60 ∧ plain.length = 60 ∧ beNat plain 12 2 ≠ 0x8F37 ∧
    up.decidingEntry .room plain = none ∧
    (deciding .pass).decidingEntry .room plain = some 0 ∧ (deciding .pass).matchTable[0].action = .pass ∧
    (deciding .drop).decidingEntry .room plain = some 0 ∧ (deciding .drop).matchTable[0].action = .drop ∧
    (deciding .boot).decidingEntry .room plain = some 0 ∧ (deciding .boot).matchTable[0].action = .boot := by
  decide +kernel

theorem witness_FrameArrivalClassified_fifos :
    State.reset.roomLink = false ∧ State.reset.upstreamLink = false ∧
    (let s := { up with toRoom := List.replicate 64 plain, toUpstream := List.replicate 64 plain }
     s.roomLink = true ∧ 64 ≤ s.toRoom.length ∧ s.upstreamLink = true ∧ 64 ≤ s.toUpstream.length) ∧
    (let s := { up with toRoom := List.replicate 63 plain, toUpstream := List.replicate 63 plain }
     s.toRoom.length < 64 ∧ s.toUpstream.length < 64) := by
  decide +kernel

theorem witness_EntryMatchesFrame : (∀ i : Fin 8, MatchEntry.initial.mask[i] = 0) ∧ MatchEntry.initial.port = .either := by
  decide +kernel

theorem witness_IdentifyReturnsIdentity : up.Admits .identify (req []) ∧ ∃ t, exec .powerOn up = .next t :=
  ⟨admits _ _ _ rfl, _, rfl⟩

/-- Mask 31 names all five fields: here circuit 7, weight 0 and enrolled, for desk 127. -/
def deskBody : List Nat := [127, 31, 2, 26, 0, 0, 0, 9, 7, 0, 10, 40, 7, 31, 1]

def deskFields : DeskFields := ⟨some 0x021A00000009, some 7, some 0, some 0x0A28071F, some 1⟩

theorem witness_DeskWriteTakenOrRefused_taken : let b := bodyOf (req deskBody)
    up.Admits .deskWrite (req deskBody) ∧ 2 ≤ (req deskBody).bodyLen ∧ (byteAt b 1).toNat < 32 ∧
    parseDeskFields (byteAt b 1) (b.drop 2) = some deskFields ∧ (byteAt b 0).toNat = (127 : DeskId).val ∧
    up.desks[(127 : DeskId)].night.state.busy = false ∧ (∀ c, deskFields.circuit = some c → c < 8) ∧
    (∀ e, deskFields.enrolled = some e → e < 2) ∧
    (∀ a, deskFields.address = some a → isGroup a = false ∧ a ≠ up.station ∧
      (a ≠ 0 → ∀ e : DeskId, e ≠ 127 → up.desks[e].config.address ≠ a)) := by
  refine ⟨admits _ _ _ rfl, by decide +kernel, by decide +kernel, by decide +kernel, by decide +kernel, by decide +kernel, ?_, ?_, ?_⟩
  · intro c h; cases h; decide
  · intro e h; cases h; decide
  · intro a h; cases h; exact ⟨by decide +kernel, by decide +kernel, fun _ => by decide +kernel⟩

/-- The check that a DESK WRITE fails, as the statement has it. -/
def deskWriteCheck (r : ProtocolFrame) (s : State) : Option Status :=
  let b := bodyOf r
  let d : DeskId := Fin.ofNat 128 (byteAt b 0).toNat
  if r.bodyLen < 2 ∨ 32 ≤ (byteAt b 1).toNat then some .badFormat
  else match parseDeskFields (byteAt b 1) (b.drop 2) with
    | none => some .badFormat
    | some f =>
      if 128 ≤ (byteAt b 0).toNat then some .badIndex
      else if s.desks[d].night.state.busy then some .deskBusy
      else if f.circuit.any (fun c => decide (8 ≤ c)) then some .badIndex
      else if f.enrolled.any (fun e => decide (2 ≤ e)) then some .badFormat
      else if f.address.any (fun a => isGroup a || a == s.station) then some .badFormat
      else if f.address.any (fun a => a != 0 && (List.finRange 128).any fun e => e != d && s.desks[e].config.address == a) then
        some .duplicateAddress
      else none

/-- One request for each of the eight checks of R6. -/
theorem witness_DeskWriteTakenOrRefused_refused : let s := withDesk (run false) 7 (timed .awake 60000)
    (∀ l, s.Admits .deskWrite (req l)) ∧ ∀ x ∈ ([([0], .badFormat), ([0, 32], .badFormat), ([0, 16], .badFormat), ([128, 0], .badIndex), ([7, 0], .deskBusy),
      ([0, 2, 8], .badIndex), ([0, 16, 2], .badFormat), ([0, 1, 1, 0, 0, 0, 0, 0], .badFormat),
      ([0, 1, 2, 26, 0, 0, 0, 7], .duplicateAddress)] : List (List Nat × Status)),
      deskWriteCheck (req x.1) s = some x.2 :=
  ⟨fun _ => admits _ _ _ rfl, by decide +kernel⟩

theorem witness_DeskReadReports : up.Admits .deskRead (req [127]) ∧ up.Admits .deskRead (req [128]) ∧
    1 ≤ (req [127]).bodyLen ∧ (127 : DeskId).val = (byteAt (bodyOf (req [127])) 0).toNat ∧ 128 ≤ (byteAt (bodyOf (req [128])) 0).toNat :=
  ⟨admits _ _ _ rfl, admits _ _ _ rfl, by decide⟩

theorem witness_CircuitWriteAndRead :
    (∀ k l, up.Admits k (req l)) ∧ (req [7]).bodyLen < 2 ∧ (req []).bodyLen < 1 ∧ 8 ≤ (byteAt (bodyOf (req [7, 8])) 1).toNat ∧
    parseCircuitFields (byteAt (bodyOf (req [7, 1])) 1) ((bodyOf (req [7, 1])).drop 2) = none ∧
    (let b := bodyOf (req [7, 7, 1, 0, 64, 0x27, 0x11])
     2 ≤ (req [7, 7, 1, 0, 64, 0x27, 0x11]).bodyLen ∧ (byteAt b 1).toNat < 8 ∧
     parseCircuitFields (byteAt b 1) (b.drop 2) = some ⟨some 256, some 64, some 10001⟩ ∧ (7 : CircuitId).val = (byteAt b 0).toNat) ∧
    8 ≤ (byteAt (bodyOf (req [8])) 0).toNat := by
  refine ⟨fun k l => admits k l _ rfl, ?_⟩
  decide +kernel

theorem witness_MatchTableRequests : let body := fun i port offset night action =>
      [i, port, offset] ++ List.replicate 16 0 ++ [night, action]
    let s := { up with liveCount := 31 }
    (∀ k l, s.Admits k (req l)) ∧ (req (List.replicate 20 0)).bodyLen < 21 ∧ 21 ≤ (req (body 32 0 0 0 0)).bodyLen ∧ 32 ≤ (byteAt (bodyOf (req (body 32 0 0 0 0))) 0).toNat ∧
    (byteAt (bodyOf (req (body 30 0 0 0 0))) 0).toNat < s.liveCount ∧
    s.liveCount ≤ (byteAt (bodyOf (req (body 31 0 121 0 0))) 0).toNat ∧ 120 < (byteAt (bodyOf (req (body 31 0 121 0 0))) 2).toNat ∧
    (let b := bodyOf (req (body 31 2 120 1 2))
     (31 : Fin 32).val = (byteAt b 0).toNat ∧ (byteAt b 1).toNat = MatchPort.either.code ∧ (byteAt b 2).toNat ≤ 120 ∧
     (byteAt b 19).toNat ≤ 1 ∧ (byteAt b 20).toNat = MatchAction.boot.code) ∧
    (byteAt (bodyOf (req [32])) 0).toNat ≤ 32 ∧ 32 < (byteAt (bodyOf (req [33])) 0).toNat := by
  refine ⟨fun k l => admits k l _ rfl, ?_⟩
  decide +kernel

theorem witness_SlotMapAndStationRequests :
    (∀ (k : ReqKind) (l : List Nat), (run false).Admits k (req l) ∧ up.Admits k (req l)) ∧ (run false).run ≠ .standby ∧ up.run = .standby ∧
    16 ≤ (req (List.replicate 16 3)).bodyLen ∧ 2 < (byteAt (bodyOf (req (List.replicate 16 3))) 15).toNat ∧
    (∀ i : Fin 16, (byteAt (bodyOf (req (List.replicate 16 1))) i.val).toNat = ((Vector.replicate 16 Source.stream)[i]).code) ∧
    (let b := bodyOf (req [1, 2, 208, 0, 0, 0, 1]); let l := (List.range 1).map fun i => macAt b (1 + 6 * i)
     (byteAt b 0).toNat = 1 ∧ 1 + 6 * 1 ≤ (req [1, 2, 208, 0, 0, 0, 1]).bodyLen ∧
     l = [depot] ∧ depot ≠ 0 ∧ isGroup depot = false ∧ depot ≠ up.station) ∧
    (req []).bodyLen < 1 ∧ (byteAt (bodyOf (req [0])) 0).toNat = 0 ∧ 4 < (byteAt (bodyOf (req ([5] ++ List.replicate 30 0))) 0).toNat := by
  refine ⟨fun k l => ⟨admits k l _ rfl, admits k l _ rfl⟩, ?_⟩
  decide +kernel

theorem witness_StatusCountersAndEventFlags :
    (∀ k l, up.Admits k (req l)) ∧ 1 ≤ (req [1]).bodyLen ∧ byteAt (bodyOf (req [0])) 0 = 0 ∧ byteAt (bodyOf (req [1])) 0 = 1 ∧
    byteAt (bodyOf (req [2])) 0 ≠ 0 ∧ byteAt (bodyOf (req [2])) 0 ≠ 1 ∧ (byteAt (bodyOf (req [128])) 0).getLsbD 7 = true ∧
    (byteAt (bodyOf (req [127])) 0).getLsbD 7 = false := by
  refine ⟨fun k l => admits k l _ rfl, ?_⟩
  decide

theorem witness_EngineResetValues : (streaming false).Admits .engineReset (req []) ∧ filling.Admits .engineReset (req []) ∧
    filling.anyFilling = true :=
  ⟨admits _ _ _ rfl, admits _ _ _ rfl, by decide +kernel⟩

theorem witness_FullResetAndPowerOnValues : (streaming false).Admits .fullReset (req []) := admits _ _ _ rfl

theorem witness_RunParamsBroughtIntoRange : let p := parseRunParams (List.replicate 51 0); let q := parseRunParams (bytes startBody)
    p.repairBurst = 0 ∧ p.decayInterval = 0 ∧ p.lowWater = 0 ∧ (parseRunParams (List.replicate 51 1)).repairBurst ≠ 0 ∧
    q.decayInterval ≠ 0 ∧ q.lowWater ≠ 0 := by
  decide

theorem witness_RunStartTaken : let s := withDesk up 7 Night.idle
    let b := bodyOf (req startBody)
    s.Admits .runStart (req startBody) ∧ 51 + (byteAt b 49).toNat + (byteAt b 50).toNat ≤ b.length ∧ s.run = .standby ∧ beNat b 2 3 ≠ 0 ∧
    isGroup (macAt b 9) = true ∧ macAt b 9 ≠ broadcastAddr ∧ (byteAt b 49).toNat ≤ 64 ∧ (byteAt b 50).toNat ≤ 16 ∧
    (byteAt b 31).toNat ≤ 2 ∧ (byteAt b 32).getLsbD 7 = false ∧
    ∃ d : DeskId, (s.desks[d].config.enrolled && s.desks[d].config.address != 0) = true := by
  refine ⟨admits _ _ _ rfl, ?_⟩
  decide +kernel

/-- The check that a RUN START fails, as the statement has it. -/
def runStartCheck (r : ProtocolFrame) (s : State) : Option Status :=
  let b := bodyOf r
  if b.length < 51 + (byteAt b 49).toNat + (byteAt b 50).toNat then some .badFormat
  else if s.run.code = 3 then some .reportHeld
  else if s.run.inProgress then some .wrongState
  else if beNat b 2 3 = 0 then some .badFormat
  else if isGroup (macAt b 9) = false ∨ macAt b 9 = broadcastAddr then some .badFormat
  else if 64 < (byteAt b 49).toNat ∨ 16 < (byteAt b 50).toNat then some .badFormat
  else if 2 < (byteAt b 31).toNat ∨ (byteAt b 32).getLsbD 7 = true then some .badFormat
  else if s.desks.toList.all (fun d => !d.config.enrolled || d.config.address == 0) then some .noDesks
  else none

/-- One request for each of the eight checks of R120. -/
theorem witness_RunRequestsRefused_runStart :
    let without := fun (i x : Nat) => startBody.set i x
    (∀ s ∈ [up, closed, run false], ∀ l, s.Admits .runStart (req l)) ∧
    ∀ x ∈ ([(startBody.take 50, up, .badFormat), (startBody.take 55, up, .badFormat), (startBody, closed, .reportHeld), (startBody, run false, .wrongState),
      ((without 3 0).set 4 0, up, .badFormat), (without 9 2, up, .badFormat),
      ((without 50 17) ++ List.replicate 14 65, up, .badFormat), (without 31 3, up, .badFormat), (startBody, up, .noDesks)] :
        List (List Nat × State × Status)),
      runStartCheck (req x.1) x.2.1 = some x.2.2 := by
  refine ⟨fun s hs l => ?_, by decide +kernel⟩
  simp only [List.mem_cons, List.not_mem_nil, or_false] at hs
  rcases hs with rfl | rfl | rfl <;> exact admits _ _ _ rfl

theorem witness_RunRequestsRefused_states :
    (∀ k, up.Admits k (req [0, 0]) ∧ (run false).Admits k (req [0, 0])) ∧ up.run.code = 0 ∧ (run false).run.code = 1 ∧
    ReqKind.runPause.minBody ≤ 2 ∧ ReqKind.runResume.minBody ≤ 2 ∧ ReqKind.runStop.minBody ≤ 2 ∧ ReqKind.enqueue.minBody ≤ 2 ∧
    ReqKind.reportRelease.minBody ≤ 2 ∧ ReqKind.ringFlush.minBody ≤ 2 ∧ (req [0, 0]).bodyLen = 2 := by
  refine ⟨fun k => ⟨admits k _ _ rfl, admits k _ _ rfl⟩, ?_⟩
  decide

theorem witness_PauseHoldsAndResumeReleases :
    receiving.Admits .runPause (req []) ∧ receiving.run = .running false info 28800000 ∧
    (run true).Admits .runResume (req []) ∧ (run true).run = .running true info 28800000 :=
  ⟨admits _ _ _ rfl, rfl, admits _ _ _ rfl, rfl⟩

/-- Ids 0 to 127 with a desk to queue and with none; and 128, and a first id above the last. -/
theorem witness_EnqueueQueuesDesks :
    let s := withDesk (run false) 7 Night.idle
    let taken := fun (s : State) (lo hi : Nat) (d : DeskId) => decide (lo ≤ d.val) && decide (d.val ≤ hi) && s.desks[d].config.address != 0
      && (s.desks[d].night.state == .idle || s.desks[d].night.state == .failed)
    (∀ l, s.Admits .enqueue (req l) ∧ closed.Admits .enqueue (req l)) ∧ (req [0]).bodyLen < 2 ∧ closed.run.inProgress = false ∧
    2 ≤ (req [0, 127]).bodyLen ∧ s.run.inProgress = true ∧
    (byteAt (bodyOf (req [0, 127])) 0).toNat = 0 ∧ (byteAt (bodyOf (req [0, 127])) 1).toNat = 127 ∧
    (List.finRange 128).filter (taken s 0 127) ≠ [] ∧ (List.finRange 128).filter (taken s 127 127) = [] ∧
    127 < (byteAt (bodyOf (req [128, 0])) 0).toNat ∧
    (byteAt (bodyOf (req [127, 126])) 1).toNat < (byteAt (bodyOf (req [127, 126])) 0).toNat := by
  refine ⟨fun l => ⟨admits _ l _ rfl, admits _ l _ rfl⟩, ?_⟩
  decide +kernel

theorem witness_StopAndWindowCloseTheRun : (run true).run = .running true info 28800000 ∧ (run true).Admits .runStop (req []) ∧
    28800000 ≤ { run true with now := 28800000 }.now :=
  ⟨rfl, admits _ _ _ rfl, by decide⟩

theorem witness_ReportReleaseClears : closed.Admits .reportRelease (req []) ∧ closed.run = .closed info .stopped 1000 ∧
    (run true).Admits .reportRelease (req []) ∧ (run true).run.code ≠ 3 :=
  ⟨admits _ _ _ rfl, rfl, admits _ _ _ rfl, by decide⟩

/-- The check that a BLOCK OPEN fails, as the statement has it. -/
def blockOpenCheck (r : ProtocolFrame) (s : State) : Option Status :=
  let h := parseBlockHeader (bodyOf r)
  let i := (byteAt (bodyOf r) 11).toNat
  if r.bodyLen < 12 then some .badFormat
  else match s.run with
  | .running _ info _ =>
    if info.params.blockCount ≤ h.sequence then some .badIndex
    else if h.length = 0 ∨ 8192 < h.length then some .badLength
    else if h.pass < s.currentPass then some .stalePass
    else if (h.length + 1023) / 1024 ≤ i then some .badFormat
    else if r.bodyLen - 12 ≠ (if i + 1 < (h.length + 1023) / 1024 then 1024 else h.length - 1024 * i) then some .badLength
    else none
  | _ => some .wrongState

/-- One request for each check, N being 5000: at sequence 5000, lengths 0 and 8193, a lower pass, fragment 8 of 8, and no data. -/
theorem witness_BlockOpenRefused : let later := { run false with currentPass := 1 }
    (∀ s ∈ [up, run false, later], ∀ l, s.Admits .blockOpen (req l)) ∧
    ∀ x ∈ ([(List.replicate 11 0, up, .badFormat), (openBody 0 1 [0, 0, 0, 0] 0 [1], up, .wrongState), (openBody 5000 1 [0, 0, 0, 0] 0 [1], run false, .badIndex),
      (openBody 4999 0 [0, 0, 0, 0] 0 [], run false, .badLength), (openBody 4999 8193 [0, 0, 0, 0] 0 [], run false, .badLength),
      (openBody 4999 1 [0, 0, 0, 0] 0 [1], later, .stalePass), (openBody 4999 8192 [0, 0, 0, 0] 8 [1], run false, .badFormat),
      (openBody 4999 8192 [0, 0, 0, 0] 7 [1], run false, .badLength)] : List (List Nat × State × Status)),
      blockOpenCheck (req x.1) x.2.1 = some x.2.2 := by
  refine ⟨fun s hs l => ?_, by decide +kernel⟩
  simp only [List.mem_cons, List.not_mem_nil, or_false] at hs
  rcases hs with rfl | rfl | rfl <;> exact admits _ _ _ rfl

/-- The ring full of SENT slots, the tail's sent at time 0 and awaited by desk 7. -/
def fullRing (now : Nat) : State :=
  { withDesk (run false) 7 (joined 0 90000) with
    slots := Vector.ofFn fun i => .sent ⟨i.val, 0, 1, 0, false⟩ i.val 0 [7]
    now := now, position := 64 }

/-- A last fragment of 1 byte, and with the ring full the lag limit of 5000 ms reached and missed by one. -/
theorem witness_BlockOpenTakesSlot : let r := req (openBody 4999 7169 [0, 0, 0, 0] 7 [1])
    let frees := fun (s : State) (x : Slot) => match x with
      | .sent _ _ firstSend _ => s.transmission.all (fun t => t.slot != s.tail) && decide (params.lagLimit ≤ s.now - firstSend)
      | _ => false
    (∀ s ∈ [run true, fullRing 5000, fullRing 4999], s.Admits .blockOpen r) ∧ 12 ≤ r.bodyLen ∧
    (run true).run = .running true info 28800000 ∧ (fullRing 5000).run = .running false info 28800000 ∧
    (fullRing 4999).run = .running false info 28800000 ∧
    (let h := parseBlockHeader (bodyOf r)
     h.sequence < params.blockCount ∧ 1 ≤ h.length ∧ h.length ≤ 8192 ∧ (run true).currentPass ≤ h.pass ∧
     (byteAt (bodyOf r) 11).toNat = (7 : Fin 8).val ∧ 7 < fragmentCount h.length ∧ r.bodyLen - 12 = fragmentLength h.length 7) ∧
    (run true).slots.toList.countP Slot.held < 64 ∧ (fullRing 5000).slots.toList.countP Slot.held = 64 ∧
    (fullRing 5000).anyFilling = false ∧ (fullRing 4999).slots.toList.countP Slot.held = 64 ∧ (fullRing 4999).anyFilling = false ∧
    (fullRing 5000).slots[(0 : SlotId)] = .sent ⟨0, 0, 1, 0, false⟩ 0 0 [7] ∧ (fullRing 5000).tail = 0 ∧ (fullRing 4999).tail = 0 ∧
    frees (fullRing 5000) (fullRing 5000).slots[(0 : SlotId)] = true ∧ frees (fullRing 4999) (fullRing 4999).slots[(0 : SlotId)] = false := by
  refine ⟨fun s hs => ?_, by decide +kernel⟩
  simp only [List.mem_cons, List.not_mem_nil, or_false] at hs
  rcases hs with rfl | rfl | rfl <;> exact admits _ _ _ rfl

theorem witness_BlockMoreReadAgainstOpenBlock :
    (∀ l, filling.Admits .blockMore (req l) ∧ (run false).Admits .blockMore (req l)) ∧
    (req []).bodyLen < 1 ∧ 1 ≤ (req [2]).bodyLen ∧ ((run false).slots[(run false).fill]).isFilling = false ∧
    (filling.slots[filling.fill] = .filling ⟨5, 0, 1030, 0, false⟩ #v[false, true, false, false, false, false, false, false]) ∧
    fragmentCount 1030 ≤ (byteAt (bodyOf (req [2])) 0).toNat ∧ (byteAt (bodyOf (req [1, 0])) 0).toNat < fragmentCount 1030 ∧
    (req [1, 0]).bodyLen - 1 ≠ fragmentLength 1030 1 ∧ (1 : Fin 8).val = (byteAt (bodyOf (req [1, 0, 0, 0, 0, 0, 0])) 0).toNat ∧
    (req [1, 0, 0, 0, 0, 0, 0]).bodyLen - 1 = fragmentLength 1030 1 := by
  refine ⟨fun l => ⟨admits _ l _ rfl, admits _ l _ rfl⟩, ?_⟩
  decide +kernel

/-- Fragments 0 and 7: a duplicate, one that leaves others missing, and the last one, with the right and a wrong check word. -/
theorem witness_FragmentTakenAndBlockChecked :
    (Vector.replicate 8 true)[(7 : Fin 8)] = true ∧ (Vector.replicate 8 false)[(0 : Fin 8)] = false ∧
    (∃ j : Fin 8, j ≠ 0 ∧ j.val < fragmentCount 8192 ∧ (Vector.replicate 8 false)[j] = false) ∧
    (∀ j : Fin 8, j ≠ 0 → j.val < fragmentCount 9 → (Vector.replicate 8 false)[j] = true) ∧
    crc32 (memRead (memWrite [] 0 (bytes [49, 50, 51, 52, 53, 54, 55, 56, 57])) 0 9) = 0xCBF43926 ∧
    crc32 (memRead (memWrite [] 0 (bytes [49, 50, 51, 52, 53, 54, 55, 56, 57])) 0 9) ≠ 0 := by
  decide +kernel

theorem witness_RingFlushEmptiesRing : (streaming true).Admits .ringFlush (req []) ∧ (streaming true).run = .running true info 28800000 ∧
    (streaming false).Admits .ringFlush (req []) ∧ (streaming false).run.code ≠ 2 :=
  ⟨admits _ _ _ rfl, rfl, admits _ _ _ rfl, by decide⟩

/-- A list of the form, a range within N, one that begins at N and one of no blocks. -/
theorem witness_WantedInsertionKeepsForm : RangesGood 5000 [⟨1195, 5⟩, ⟨4998, 2⟩] ∧ [Range.mk 1195 5, ⟨4998, 2⟩].length ≤ 32 ∧
    (1200 : Nat) < 5000 ∧ (mergeInto [⟨1195, 5⟩, ⟨4998, 2⟩] 1200 (min (1200 + 3) 5000)).length ≤ 32 ∧ 5000 ≤ 5000 := by
  refine ⟨⟨by decide, by decide, by decide, by decide⟩, ?_⟩
  decide

/-- A list of 32 ranges, each a block with a gap of 19 to the next, and an insertion between the first two, which leaves gaps of 9. -/
theorem witness_WantedInsertionKeepsForm_overflow :
    let l := (List.range 32).map fun i => Range.mk (20 * i) 1
    RangesGood 5000 l ∧ l.length ≤ 32 ∧ (10 : Nat) < 5000 ∧ (mergeInto l 10 (min (10 + 1) 5000)).length = 33 ∧
    insertRange 5000 l 10 1 = ⟨0, 11⟩ :: l.tail := by
  refine ⟨?_, by decide +kernel⟩
  simp [List.range_succ, RangesGood, Range.stop]

theorem witness_WantedReadAndTake : up.Admits .wantedRead (req []) ∧ (run false).Admits .wantedTake (req []) ∧ up.WantedGood ∧
    up.run = .standby :=
  ⟨admits _ _ _ rfl, admits _ _ _ rfl, rfl, rfl⟩

/-- In each run state of a run: a WAKING desk, one queued again and one queued for the first time. -/
theorem witness_PresenceConfirmsWake :
    let again := withDesk (run true) 7 { Night.idle with state := .queued, wakeAttempts := 1 }
    let first := withDesk (run false) 7 { Night.idle with state := .queued }
    (withDesk (run false) 7 (timed .waking 30000)).lookup (addr 7) = some 7 ∧
    (withDesk (run false) 7 (timed .waking 30000)).desks[7].night.state = .waking ∧
    again.lookup (addr 7) = some 7 ∧ again.run = .running true info 28800000 ∧ 1 ≤ again.desks[7].night.wakeAttempts ∧
    first.lookup (addr 7) = some 7 ∧ first.desks[7].night.wakeAttempts = 0 ∧ first.lookup (addr 8) = none := by
  decide +kernel

/-- A desk of weight 120 queued on circuit 2. -/
def queued (s : State) : State := { withDesk s 7 { Night.idle with state := .queued } with wakeQueue := [7] }

theorem witness_PresenceConfirmsWake_distinct : (queued (run false)).AddressesDistinct := by
  unfold State.AddressesDistinct
  decide +kernel

/-- A budget of 119; of 120 with a load of 0 and of 1. -/
theorem witness_ScanConsidersDesk : let s := fun budget load => withCircuit (queued (run false)) budget 64 0 load none (some 200)
    (∀ budget ∈ [119, 120], ∀ load ∈ [0, 1], (s budget load).run = .running false info 28800000 ∧
      (s budget load).desks[(7 : DeskId)].config = ⟨addr 7, 2, 120, 0x0A28071F, true⟩ ∧
      (s budget load).circuits[(2 : CircuitId)] = ⟨budget, 64, 0, load, none, some 200⟩ ∧ (s budget load).controlQueue.length < 16) ∧
    119 < 120 ∧ 0 + 120 ≤ 120 ∧ ¬ 1 + 120 ≤ 120 := by
  decide +kernel

theorem witness_ScanOutcome : (queued (run false)).run = .running false info 28800000 ∧ (run true).run.active = false ∧ (queued (run false)).run.active = true ∧ (queued (run false)).wakeQueue.Nodup := by
  decide +kernel

theorem witness_DecayStepAndGapExpiry : let s := fun now => { withCircuit (run true) 400 64 450 1 (some 600) (some 600) with now := now }
    (s 600).run = .running true info 28800000 ∧ ((s 600).circuits[(2 : CircuitId)]).decayTimer = some 600 ∧
    ((s 600).circuits[(2 : CircuitId)]).gapTimer = some 600 ∧ 600 ≤ (s 600).now ∧ (255 : Nat) < 256 := by
  decide +kernel

theorem witness_EventsRaisedAndRunClosed :
    let s := { run false with noticeEnable := 1, replyQueue := List.replicate 7 (.notice depot 0 .deskDone []) }
    let full := { run false with noticeEnable := 1, replyQueue := List.replicate 8 (.notice depot 0 .deskDone []) }
    s.run.info? = some info ∧ s.noticeEnable.getLsbD EventKind.deskDone.code = true ∧ s.replyQueue.length < 8 ∧
    full.run.info? = some info ∧ full.noticeEnable.getLsbD EventKind.deskDone.code = true ∧ 8 ≤ full.replyQueue.length ∧
    s.noticeEnable.getLsbD EventKind.ringDrained.code = false := by
  decide +kernel

/-- The number of EMPTY slots rises from 15 to the low-water setting of 16, and a desk is still queued, or none is. -/
theorem witness_EventsRaisedAndRunClosed_settle :
    let held := fun n => { run false with slots := Vector.ofFn fun i => if i.val < n then .ready ⟨i.val, 0, 1, 0, false⟩ else .empty }
    (held 49).run = .running false info 28800000 ∧ (held 48).run = .running false info 28800000 ∧
    64 - (held 49).slots.toList.countP Slot.held = 15 ∧ 64 - (held 48).slots.toList.countP Slot.held = 16 ∧ params.lowWater = 16 ∧
    (held 48).wakeQueue = [] ∧ (∀ d : DeskId, (held 48).desks[d].night.state = .idle) ∧ (queued (run false)).wakeQueue ≠ [] := by
  decide +kernel

/-- A RUN START whose scan finishes the last desk: from STANDBY into a run with no desk left. -/
theorem witness_EventsRaisedAndRunClosed_start : up.run.inProgress = false ∧ (run false).run.inProgress = true ∧
    (run false).wakeQueue = [] ∧ (∀ d : DeskId, (run false).desks[d].night.state = .idle) := by
  decide +kernel

/-- Each timed state at its deadline, below its limit of 2 and at it. -/
theorem witness_DeskTimersExpire : let s := fun n => { withDesk (run false) 7 n with now := 60000 }
    (∀ x ∈ [DeskState.waking, .awake, .offered, .joined], ∀ k ∈ [1, 2],
      let t := s { timed x 60000 with wakeAttempts := k, polls := k }
      t.run = .running false info 28800000 ∧ t.desks[(7 : DeskId)].night.state = x ∧
      t.desks[(7 : DeskId)].night.timer = some (.running 60000) ∧ 60000 ≤ t.now) ∧
    (1 : Nat) < params.wakeAttemptLimit ∧ params.wakeAttemptLimit ≤ 2 ∧ (1 : Nat) < params.pollLimit ∧ params.pollLimit ≤ 2 := by
  decide +kernel

theorem witness_CommandsWithoutTheirEvent : (run true).run.active = false ∧ receiving.desks[(7 : DeskId)].night.state ≠ .awake ∧
    receiving.desks[(7 : DeskId)].night.timer = some (.running 10000) ∧ { receiving with now := 9999 }.now < 10000 ∧
    up.run.inProgress = false ∧
    ((run true).circuits[(2 : CircuitId)]).gapTimer = none ∧ ((run true).circuits[(2 : CircuitId)]).decayTimer = none ∧
    (let s := { withCircuit (run true) 400 64 450 1 (some 600) (some 600) with now := 599 }
     (s.circuits[(2 : CircuitId)]).gapTimer = some 600 ∧ (s.circuits[(2 : CircuitId)]).decayTimer = some 600 ∧ s.now < 600) ∧
    (run true).run = .running true info 28800000 ∧ { run true with now := 28799999 }.now < 28800000 := by
  decide +kernel

theorem witness_DeskFailsOrCompletes : (streaming false).run.info? = some info ∧ FailCause.silent ≠ .runEnded := ⟨rfl, by decide⟩

/-- The option area of that discovery: two whole options and the end. A message type of length 2 makes it unparseable. -/
theorem witness_DiscoveryQualifies : let pieces := [bytes [53, 1, 1], bytes [60, 3, 0x50, 0x56, 0x42]]
    parseDiscovery (discovery 7 discoverOptions) = some (asked 7) ∧ bytes discoverOptions = pieces.flatten ++ bytes [255] ∧
    ((pieces.find? fun x => x.head? == some 60).map (List.drop 2)) = some (bytes [0x50, 0x56, 0x42]) ∧
    parseDiscovery (discovery 7 [53, 2, 1, 0, 255]) = none := by
  decide +kernel

/-- An AWAKE desk, a JOINED desk below the restart limit of 1, and one at it. -/
theorem witness_DiscoveryAnswered : let f := discovery 7 discoverOptions
    let s1 := fun n => (((withDesk (run false) 7 n).count .roomIn).presence (macAt f 6)).bootHit .room f
    parseDiscovery f = some (asked 7) ∧
    (s1 (timed .awake 60000)).qualifies (asked 7) = some (info, 7) ∧ (s1 (timed .awake 60000)).desks[7].night.state ≠ .joined ∧
    (s1 (joined 0 10000)).qualifies (asked 7) = some (info, 7) ∧ (s1 (joined 0 10000)).desks[7].night.restarts < params.restartLimit ∧
    (s1 { joined 0 10000 with restarts := 1 }).qualifies (asked 7) = some (info, 7) ∧
    params.restartLimit ≤ (s1 { joined 0 10000 with restarts := 1 }).desks[7].night.restarts := by
  decide +kernel

/-- A frame that is no discovery, and a discovery of a desk that has none to answer. -/
theorem witness_DiscoveryHandedBack : let f := discovery 8 discoverOptions
    parseDiscovery plain = none ∧ parseDiscovery f = some (asked 8) ∧
    ((((run false).count .roomIn).presence (macAt f 6)).bootHit .room f).qualifies (asked 8) = none := by
  decide +kernel

/-- The reply to that discovery. -/
def offer : BootReply where
  acknowledge := false
  client := addr 7
  lease := 0x0A28071F
  server := 0x0A280005
  leaseTime := 3600
  subnetMask := 0xFFFF0000
  router := 0
  loaderName := List.replicate 64 65
  transaction := 0xCAFEBABE
  bootFlags := 0x8000
  clientAddress := 0

theorem witness_BootReplyLengthsAndChecksum : offer.loaderName.length ≤ 64 := by decide

theorem witness_JoinDecidedByTable : let r := fun d : Nat => frameOf (addr d) (macBytes (addr d) ++ bytes [0, 1])
    let s1 := fun n => ((withDesk (run true) 7 n).count .roomIn).presence (addr 7)
    parseJoin (r 7) = some (addr 7, 1) ∧ parseJoin (req []) = none ∧ up.run = .standby ∧
    closed.run = .closed info .stopped 1000 ∧ (run true).run = .running true info 28800000 ∧
    ((up.count .roomIn).presence (addr 7)).lookup (addr 7) = none ∧
    (s1 (timed .offered 90000)).lookup (addr 7) = some 7 ∧ (s1 (timed .offered 90000)).desks[7].night.state = .offered ∧
    (s1 (joined 43 10000)).lookup (addr 7) = some 7 ∧ (s1 (joined 43 10000)).desks[7].night.state = .joined ∧
    (s1 (joined 43 10000)).desks[7].night.joinedPos = some 43 ∧
    (s1 (timed .awake 60000)).lookup (addr 7) = some 7 ∧ (s1 (timed .awake 60000)).desks[7].night.state = .awake := by
  decide +kernel

/-- Reports of zero missing blocks and a good image, of a bad image, and of one missing block. -/
theorem witness_ReportProcessedInSteps : let s1 := ((streaming false).count .roomIn).presence (addr 7)
    (∀ x ∈ ([(0, 1, .good), (0, 2, .bad), (1, 0, .none)] : List (Nat × Nat × ImageStatus)),
      parseReport (reportOf 41 x.1 x.2.1) = some ⟨0x1234, 41, x.1, x.2.2, [], []⟩) ∧
    (streaming false).run = .running false info 28800000 ∧ (0x1234 : BitVec 16) = params.runTag ∧
    s1.lookup (addr 7) = some 7 ∧ s1.desks[(7 : DeskId)].night.state = .joined := by
  decide +kernel

theorem witness_ReportProcessedInSteps_naks : let s := streaming false
    (∀ i : SlotId, (s.slots[i]).position? ≠ some 39) ∧ (s.slots[(0 : SlotId)]).position? = some 40 ∧
    (∀ j : SlotId, (s.slots[j]).position? = some 40 → j = 0) ∧ (0 : SlotId) ∉ s.repairQueue ∧ s.repairQueue.length < 16 ∧
    (0 : SlotId) ∉ List.replicate 16 (1 : SlotId) ∧ 16 ≤ (List.replicate 16 (1 : SlotId)).length ∧ (0 : SlotId) ∈ [(0 : SlotId)] := by
  decide +kernel

theorem witness_ReportIgnoredOrFinishedAgain :
    let s1 := fun n => ((withDesk (run false) 7 n).count .roomIn).presence (addr 7)
    let done := { Night.idle with state := .complete, missing := some 0, image := .good, completion := some 5 }
    parseReport (req []) = none ∧ up.run = .standby ∧
    parseReport (reportOf 41 0 1) = some ⟨0x1234, 41, 0, .good, [], []⟩ ∧
    (((run false).count .roomIn).presence (addr 7)).lookup (addr 7) = none ∧
    (s1 (timed .offered 90000)).lookup (addr 7) = some 7 ∧ (s1 (timed .offered 90000)).desks[7].night.state ≠ .joined ∧
    (s1 done).lookup (addr 7) = some 7 ∧ (s1 done).desks[7].night.state = .complete ∧ (run false).run.info? = some info ∧
    (0x1234 : BitVec 16) = params.runTag ∧ (0x1235 : BitVec 16) ≠ params.runTag := by
  decide +kernel

theorem witness_LinkChanges : up.upstreamLink = true ∧ up.roomLink = true ∧ State.reset.upstreamLink = false ∧
    State.reset.roomLink = false := by
  decide +kernel

/-- Every source with a frame, and the map at entries 0, 1 and 2 naming CONTROL, STREAM and PASS in turn; then a source named without a
frame, and no source with one. A Control Queue of 15 frames and of 16. -/
theorem witness_RoomOpportunityServesSource :
    let poll := ControlFrame.poll (addr 7) 0x1234 1
    let s := fun i => { streaming false with toRoom := [plain], controlQueue := poll :: List.replicate 15 poll, egressPos := i }
    (∀ i : Fin 16, (s i).roomLink = true ∧ (s i).roomSending = none ∧ (s i).run = .running false info 28800000 ∧
      (s i).toRoom = plain :: [] ∧ (s i).controlQueue = poll :: List.replicate 15 poll ∧ 16 ≤ (s i).controlQueue.length ∧
      (s i).exhausted = false ∧ ((s i).slots[(s i).current]).isReady = true) ∧
    (s 0).slotMap[(s 0).egressPos] = .control ∧ (s 1).slotMap[(s 1).egressPos] = .stream ∧ (s 2).slotMap[(s 2).egressPos] = .pass ∧
    (let t := { up with controlQueue := List.replicate 15 poll, egressPos := 1 }
     t.run.active = false ∧ t.toRoom = [] ∧ t.controlQueue.length < 16 ∧ t.controlQueue ≠ []) ∧
    State.reset.roomLink = false ∧ up.toRoom = [] ∧ up.controlQueue = [] ∧ up.run.active = false := by
  decide +kernel

theorem witness_StreamChoosesAndStarts : (streaming false).transmission = none ∧
    (streaming false).slots[(streaming false).current] = .ready ⟨101, 0, 1000, 0, true⟩ ∧ (streaming false).exhausted = false ∧
    (streaming false).repairQueue = [] ∧
    (let s := { streaming false with repairQueue := [0], repairCount := 1 }; s.repairQueue = [0] ∧ s.repairCount < params.repairBurst) ∧
    (let s := { streaming false with repairQueue := [0], repairCount := 2 }; params.repairBurst ≤ s.repairCount) ∧
    (let s := { streaming false with transmission := some ⟨0, .first, 1, false⟩ }; s.transmission = some ⟨0, .first, 1, false⟩) := by
  decide +kernel

/-- The first and the last fragment of a block of 1500 bytes, with a slot READY and with none. -/
theorem witness_FragmentHandedOrTransmissionEnds : let s := streaming false
    let alone := { s with slots := s.slots.set 1 .empty }
    s.slots[(0 : SlotId)] = .sent ⟨100, 0, 1500, 0, false⟩ 40 0 [7] ∧ 0 + 1 < fragmentCount 1500 ∧ fragmentCount 1500 ≤ 1 + 1 ∧
    ((State.retire { s with transmission := none }).slots[(1 : SlotId)]).isReady = true ∧
    alone.slots[(0 : SlotId)] = .sent ⟨100, 0, 1500, 0, false⟩ 40 0 [7] ∧
    (∀ i : SlotId, ((State.retire { alone with transmission := none }).slots[i]).isReady = false ∧
      ((State.retire { alone with transmission := none }).slots[i]).isFilling = false) := by
  decide +kernel

theorem witness_UpstreamAlternatesAndFramesAreSent :
    let s := { up with toUpstream := [plain], replyQueue := [.notice depot 0 .deskDone []] }
    s.upstreamLink = true ∧ s.upstreamSending = none ∧ s.lastServed = .fifo ∧ { s with lastServed := .reply }.lastServed = .reply ∧
    { s with upstreamSending := some plain, roomSending := some plain }.upstreamSending ≠ none ∧ s.roomSending = none ∧
    up.replyQueue = [] ∧ up.toUpstream = [] := by
  decide +kernel

theorem params_inRange : params.InRange := by constructor <;> decide

theorem witness_RecordsReadBack : params.InRange ∧ params.blockCount < 2 ^ 24 ∧ params.leaseTime < 2 ^ 32 ∧
    params.loaderName.length < 256 ∧ params.marker.length < 256 ∧ DeskConfig.initial.weight < 256 :=
  ⟨params_inRange, by decide⟩

theorem witness_RunChangesOnlyByRule : exec (.runPause (req [])) receiving = .next (after (.runPause (req [])) receiving) ∧
    receiving.run.code ≠ (after (.runPause (req [])) receiving).run.code ∧ receiving.run.info? = some info :=
  ⟨rfl, by decide +kernel, rfl⟩

theorem witness_OnlyRequestsConfigure : let c := Instr.stationWrite (req [1, 2, 208, 0, 0, 0, 1])
    exec c up = .next (after c up) ∧ (after c up).stations ≠ up.stations ∧
    exec (.linkDown .room) up = .next (after (.linkDown .room) up) ∧ (∀ k r, Instr.linkDown .room ≠ Instr.ofKind k r) ∧
    Instr.linkDown .room ≠ .powerOn ∧ ∀ good frame, Instr.linkDown .room ≠ .frameArrival .upstream good frame :=
  ⟨rfl, by decide +kernel, rfl, fun k r => by cases k <;> simp [Instr.ofKind], by simp, fun _ _ => by simp⟩

theorem witness_CountersAndPositionOnlyRise : (∀ k : Counter, up.counter k ≤ 4294967295) ∧
    exec (.linkDown .room) up = .next (after (.linkDown .room) up) ∧ Instr.linkDown .room ≠ .powerOn ∧
    (∀ r, Instr.linkDown .room ≠ .countersRead r ∧ Instr.linkDown .room ≠ .fullReset r) ∧
    (∀ r, Instr.linkDown .room ≠ .runStart r ∧ Instr.linkDown .room ≠ .engineReset r) :=
  ⟨fun k => by cases k <;> decide +kernel, rfl, by simp, fun _ => by simp, fun _ => by simp⟩

/-- That ring and its desk in an ACTIVE run, about to see the Room link go down. -/
def losing : State := { streaming false with pending := [.linkDown .room] }

theorem losing_desks (d : DeskId) : losing.desks[d].night = if d = 7 then joined 0 10000 else Night.idle := by
  revert d
  decide +kernel

theorem losing_slots (i : SlotId) : losing.slots[i] =
    if i = 0 then .sent ⟨100, 0, 1500, 0, false⟩ 40 0 [7] else if i = 1 then .ready ⟨101, 0, 1000, 0, true⟩ else .empty := by
  revert i
  decide +kernel

theorem losing_info {x : RunInfo} (h : losing.run.info? = some x) : x = info := (Option.some.inj h).symm

theorem losing_desksGood : losing.DesksGood where
  params x h := by rw [losing_info h]; exact params_inRange
  night x h d := by
    rw [losing_info h, losing_desks]
    split <;> constructor <;> decide
  standby h := by cases h
  closed h := by cases h
  held _ d t h := by
    rw [losing_desks] at h
    split at h <;> cases h
    rfl
  once := by decide
  exact d := by
    rw [losing_desks]
    split <;> simp [losing, streaming, withDesk, run, up, State.reset, joined, timed, Night.idle]

theorem losing_ringGood : losing.RingGood where
  quiet h := by cases h
  arranged _ := ⟨1, 1, 0, by decide, by decide, by decide, by decide, by decide +kernel⟩
  headers i h e := by
    rw [losing_slots] at e
    split at e
    · cases e; exact ⟨by decide, by decide, by decide, fun x hx => by rw [losing_info hx]; decide⟩
    · split at e <;> cases e
      exact ⟨by decide, by decide, by decide, fun x hx => by rw [losing_info hx]; decide⟩
  partly i h m e := by
    rw [losing_slots] at e
    split at e
    · cases e
    · split at e <;> cases e
  repairsOnce := by decide
  repairsSent i hi := by cases hi
  sending t h := by cases h
  cut t h := by cases h
  pendingJoined i d h := by
    rw [losing_slots] at h
    split at h
    · simp only [Slot.waiting, List.mem_singleton] at h; subst h; decide +kernel
    · split at h <;> cases h
  pendingOnce i := by
    rw [losing_slots]
    split
    · decide
    · split <;> decide
  positions i p h := by
    rw [losing_slots] at h
    split at h
    · cases h; decide
    · split at h <;> cases h
  distinct i j p h h' := by
    rw [losing_slots] at h h'
    split at h
    · split at h'
      · simp_all
      · split at h' <;> cases h'
    · split at h <;> cases h
  limit := by decide
  exhausted h := by cases h

theorem witness_DesksStayGood : losing.DesksGood ∧ losing.RingGood ∧ (∃ t, step losing = .next t) ∧ State.reset.ControlQuiet :=
  ⟨losing_desksGood, losing_ringGood, ⟨_, rfl⟩, fun _ => rfl⟩

theorem witness_RingStaysGood : losing.DesksGood ∧ losing.RingGood ∧ ∃ t, step losing = .next t :=
  ⟨losing_desksGood, losing_ringGood, _, rfl⟩

theorem witness_BoundsAndFormsStay : losing.QueuesBounded ∧ losing.AddressesDistinct ∧ losing.WantedGood ∧ losing.MemoryGood ∧
    losing.DesksGood ∧ losing.FieldsInRange ∧ ∃ t, step losing = .next t := by
  refine ⟨?_, ?_, ⟨trivial, by decide⟩, ?_, losing_desksGood, ?_, _, rfl⟩
  · constructor <;> first | decide | (intro k; cases k <;> decide +kernel)
  · unfold State.AddressesDistinct; decide +kernel
  · unfold State.MemoryGood; decide +kernel
  · constructor <;> decide +kernel

/-- The first and the last byte of a slot's memory. -/
theorem witness_BlockMemoryReadsBack : (0 : Nat) < 8192 ∧ (8191 : Nat) < 8192 := by decide

end Sys2Proof.Tests
end

section
/-! SUPPORT. The Desk Table (01_the_desk_table.md): what DESK WRITE and DESK READ do on each outcome of their checks (R6, R7, R9),
what each desk deadline does at its expiry (R13, R14, R16), and the statements O9, O38 and O10. -/

namespace Sys2Proof.Machine

/-! ## Requests too short for their kind -/

/-- R152, check 4: an admitted request whose body is shorter than its kind requires. -/
theorem exec_admitted_short {k : ReqKind} {r : ProtocolFrame} {s : State} (h : s.Admits k r) (hm : r.bodyLen < k.minBody) :
    exec (Instr.ofKind k r) s = .next ((s.count .upstreamIn).putReply (.response r.src k.code r.tag .badFormat [])) := by
  rw [exec_ofKind, requestEvent]
  exact congrArg _ (takeRequest_refused k r _ h.source h.destination h.station (.inr (.inr hm)))

/-! ## The fields of a DESK WRITE -/

theorem deskOf_ofNat {n : Nat} (h : n < 128) : deskOf? n = some (Fin.ofNat 128 n) :=
  deskOf_val (Nat.mod_eq_of_lt h)

theorem circuitOf_ofNat {n : Nat} (h : n < 8) : circuitOf? n = some (Fin.ofNat 8 n) :=
  circuitOf_val (Nat.mod_eq_of_lt h)

theorem circuitOf_isNone (n : Nat) : (circuitOf? n).isNone = decide (8 ≤ n) := by
  by_cases h : 8 ≤ n
  · simp [circuitOf_none h, h]
  · simp [circuitOf_ofNat (Nat.lt_of_not_le h), h]

theorem boolOfCode_of_lt : ∀ {n : Nat}, n < 2 → boolOfCode? n = some (n == 1)
  | 0, _ => rfl
  | 1, _ => rfl
  | _ + 2, h => absurd h (by omega)

theorem boolOfCode_isNone : ∀ n : Nat, (boolOfCode? n).isNone = decide (2 ≤ n)
  | 0 => rfl
  | 1 => rfl
  | n + 2 => by simp [boolOfCode?]

/-- A carried field that names nothing: the checks 5 and 6 of R6 read as a bound on the number carried. -/
theorem isSome_and_bind_isNone {α : Type} {f : Nat → Option α} {bound : Nat} (hf : ∀ n, (f n).isNone = decide (bound ≤ n))
    (x : Option Nat) : (x.isSome && (x.bind f).isNone) = x.any fun n => decide (bound ≤ n) := by
  cases x with
  | none => rfl
  | some n => simpa using hf n

/-- R7: the configuration a DESK WRITE of checked fields leaves. -/
theorem DeskConfig.written_eq {f : DeskFields} (c : DeskConfig) (hc : ∀ n, f.circuit = some n → n < 8)
    (he : ∀ n, f.enrolled = some n → n < 2) :
    c.written f =
      { address := f.address.getD c.address
        circuit := f.circuit.elim c.circuit (Fin.ofNat 8)
        weight := f.weight.elim c.weight (max 1)
        lease := f.lease.getD c.lease
        enrolled := f.enrolled.elim c.enrolled (· == 1) } := by
  obtain ⟨address, circuit, weight, lease, enrolled⟩ := f
  have circuit_eq : (circuit.bind circuitOf?).getD c.circuit = circuit.elim c.circuit (Fin.ofNat 8) := by
    cases circuit with
    | none => rfl
    | some n => simp [circuitOf_ofNat (hc n rfl)]
  have weight_eq : (weight.map fun w => if w = 0 then 1 else w).getD c.weight = weight.elim c.weight (max 1) := by
    cases weight with
    | none => rfl
    | some w => simp only [Option.map_some, Option.getD_some, Option.elim_some]; split <;> omega
  have enrolled_eq : (enrolled.bind boolOfCode?).getD c.enrolled = enrolled.elim c.enrolled (· == 1) := by
    cases enrolled with
    | none => rfl
    | some n => simp [boolOfCode_of_lt (he n rfl)]
  simp only [DeskConfig.written, circuit_eq, weight_eq, enrolled_eq]

/-- R6, checks 4 to 8, each as a condition on the field that it reads. -/
theorem deskWriteFault_eq (s : State) (d : DeskId) (f : DeskFields) :
    deskWriteFault s d f =
      if s.desks[d].night.state.busy then some .deskBusy
      else if f.circuit.any (fun c => decide (8 ≤ c)) then some .badIndex
      else if f.enrolled.any (fun e => decide (2 ≤ e)) then some .badFormat
      else if f.address.any (fun a => isGroup a || a == s.station) then some .badFormat
      else if f.address.any (fun a => a != 0 && (List.finRange 128).any fun e => e != d && s.desks[e].config.address == a) then
        some .duplicateAddress
      else none := by
  simp only [deskWriteFault, isSome_and_bind_isNone circuitOf_isNone, isSome_and_bind_isNone boolOfCode_isNone]
  cases f.address <;> simp

/-- R6: no check fails on fields that are all in order. -/
theorem deskWriteFault_none {s : State} {d : DeskId} {f : DeskFields} (idle : s.desks[d].night.state.busy = false)
    (hc : ∀ c, f.circuit = some c → c < 8) (he : ∀ e, f.enrolled = some e → e < 2)
    (ha : ∀ a, f.address = some a → isGroup a = false ∧ a ≠ s.station ∧
      (a ≠ 0 → ∀ e : DeskId, e ≠ d → s.desks[e].config.address ≠ a)) :
    deskWriteFault s d f = none := by
  have circuit : ¬ f.circuit.any (fun c => decide (8 ≤ c)) = true := by
    simpa [Option.any_eq_true] using hc
  have enrolled : ¬ f.enrolled.any (fun e => decide (2 ≤ e)) = true := by
    simpa [Option.any_eq_true] using he
  have own : ¬ f.address.any (fun a => isGroup a || a == s.station) = true := by
    simp only [Option.any_eq_true, Bool.or_eq_true, beq_iff_eq]
    rintro ⟨a, h, group | station⟩
    · simp [(ha a h).1] at group
    · exact (ha a h).2.1 station
  have distinct : ¬ f.address.any (fun a => a != 0 &&
      (List.finRange 128).any fun e => e != d && s.desks[e].config.address == a) = true := by
    simp only [Option.any_eq_true, Bool.and_eq_true, bne_iff_ne, List.any_eq_true, beq_iff_eq]
    rintro ⟨a, h, nonzero, e, -, other, same⟩
    exact (ha a h).2.2 nonzero e other same
  rw [deskWriteFault_eq, if_neg (Bool.eq_false_iff.1 idle), if_neg circuit, if_neg enrolled, if_neg own, if_neg distinct]

/-! ## DESK WRITE -/

/-- R6, check 1: a mask that names a field there is not. -/
theorem deskWriteRule_badMask {r : ProtocolFrame} {s : State} (hm : 32 ≤ (byteAt (bodyOf r) 1).toNat) :
    deskWriteRule r s = s.refuse r .deskWrite .badFormat := by
  simp [deskWriteRule, hm]

/-- R6, check 2: a body too short for the fields that its mask names. -/
theorem deskWriteRule_noFields {r : ProtocolFrame} {s : State}
    (hf : parseDeskFields (byteAt (bodyOf r) 1) ((bodyOf r).drop 2) = none) :
    deskWriteRule r s = s.refuse r .deskWrite .badFormat := by
  simp only [deskWriteRule, hf]; split <;> rfl

section
variable {r : ProtocolFrame} {s : State} {f : DeskFields} (hl : 2 ≤ (bodyOf r).length) (hm : (byteAt (bodyOf r) 1).toNat < 32)
  (hf : parseDeskFields (byteAt (bodyOf r) 1) ((bodyOf r).drop 2) = some f)
include hl hm hf

/-- R6, check 3: an id above 127. -/
theorem deskWriteRule_badIndex (hd : deskOf? (byteAt (bodyOf r) 0).toNat = none) :
    deskWriteRule r s = s.refuse r .deskWrite .badIndex := by
  simp [deskWriteRule, hf, hd, Nat.not_lt.2 hl, Nat.not_le.2 hm]

/-- R6, checks 4 to 8. -/
theorem deskWriteRule_fault {d : DeskId} {status : Status} (hd : deskOf? (byteAt (bodyOf r) 0).toNat = some d)
    (fault : deskWriteFault s d f = some status) : deskWriteRule r s = s.refuse r .deskWrite status := by
  simp [deskWriteRule, hf, hd, fault, Nat.not_lt.2 hl, Nat.not_le.2 hm]

/-- R7: a DESK WRITE that passes every check. -/
theorem deskWriteRule_written {d : DeskId} (hd : deskOf? (byteAt (bodyOf r) 0).toNat = some d)
    (fault : deskWriteFault s d f = none) : deskWriteRule r s =
      State.answer { s with desks := s.desks.set d { s.desks[d] with config := (s.desks[d].config).written f } } r .deskWrite
        (if f.weight = some 0 then .clamped else .ok) (beBytes 1 d.val ++ ((s.desks[d].config).written f).bytes) := by
  simp [deskWriteRule, hf, hd, fault, Nat.not_lt.2 hl, Nat.not_le.2 hm]

end

/-- Settles O9: each outcome of R6's checks is one equation of the rule; the checks on the record are `deskWriteFault`, whose
cascade is that of the statement. -/
theorem deskWriteTakenOrRefused : Obligations.DeskWriteTakenOrRefused := by
  refine ⟨?taken, ?refused⟩
  case taken =>
    intro r s d f admits long b mask parsed id idle circuit enrolled address old new
    have body : 2 ≤ (bodyOf r).length := admits.body_length ▸ long
    have fault : deskWriteFault (s.count .upstreamIn) d f = none := deskWriteFault_none idle circuit enrolled address
    have written : old.written f = new := old.written_eq circuit enrolled
    rw [← written]
    exact (exec_admitted admits long).trans
      (congrArg _ (deskWriteRule_written body mask parsed (deskOf_val id.symm) fault))
  case refused =>
    intro r s status admits b d check
    by_cases short : r.bodyLen < 2
    · rw [if_pos (.inl short)] at check
      cases check
      exact exec_admitted_short admits short
    have long : ReqKind.deskWrite.minBody ≤ r.bodyLen := Nat.le_of_not_lt short
    have body : 2 ≤ (bodyOf r).length := admits.body_length ▸ long
    suffices deskWriteRule r (s.count .upstreamIn) = (s.count .upstreamIn).refuse r .deskWrite status from
      (exec_admitted admits long).trans (congrArg _ this)
    by_cases mask : 32 ≤ (byteAt b 1).toNat
    · rw [if_pos (.inr mask)] at check
      cases check
      exact deskWriteRule_badMask mask
    rw [if_neg (by tauto)] at check
    have mask : (byteAt b 1).toNat < 32 := Nat.lt_of_not_le mask
    cases parsed : parseDeskFields (byteAt b 1) (b.drop 2) with
    | none =>
      rw [parsed] at check
      cases check
      exact deskWriteRule_noFields parsed
    | some f =>
      simp only [parsed] at check
      by_cases id : 128 ≤ (byteAt b 0).toNat
      · rw [if_pos id] at check
        cases check
        exact deskWriteRule_badIndex body mask parsed (deskOf_none id)
      · rw [if_neg id] at check
        have fault : deskWriteFault (s.count .upstreamIn) d f = some status := (deskWriteFault_eq _ d f).trans check
        exact deskWriteRule_fault body mask parsed (deskOf_ofNat (Nat.lt_of_not_le id)) fault

/-! ## DESK READ -/

theorem deskReadRule_badIndex {r : ProtocolFrame} {s : State} (hl : 1 ≤ (bodyOf r).length)
    (hd : deskOf? (byteAt (bodyOf r) 0).toNat = none) : deskReadRule r s = s.refuse r .deskRead .badIndex := by
  simp only [deskReadRule, Nat.not_lt.2 hl, hd, if_false]

/-- R9: a DESK READ of a record. -/
theorem deskReadRule_reports {r : ProtocolFrame} {s : State} {d : DeskId} (hl : 1 ≤ (bodyOf r).length)
    (hd : deskOf? (byteAt (bodyOf r) 0).toNat = some d) : deskReadRule r s =
      s.answer r .deskRead .ok (beBytes 1 d.val ++ (s.desks[d].config).bytes ++ (s.desks[d].night).bytes s.now) := by
  simp only [deskReadRule, Nat.not_lt.2 hl, hd, if_false]

/-- Settles O10: the two outcomes of `deskReadRule`, after the arrival is counted. -/
theorem deskReadReports : Obligations.DeskReadReports := by
  intro r s admits long id
  have body : 1 ≤ (bodyOf r).length := admits.body_length ▸ long
  refine ⟨fun above => ?badIndex, fun d hd => ?reports⟩
  case badIndex =>
    exact (exec_admitted admits long).trans (congrArg _ (deskReadRule_badIndex body (deskOf_none above)))
  case reports =>
    rw [← hd]
    exact (exec_admitted admits long).trans (congrArg _ (deskReadRule_reports body (deskOf_val hd)))

/-! ## Deadline timer expiries -/

/-- R11, R12: in ACTIVE, the deadline of a desk in the state asked for has been reached. -/
theorem State.deskDue_active {s : State} {d : DeskId} {x : DeskState} {info : RunInfo} {windowDeadline deadline : Nat}
    (run : s.run = .running false info windowDeadline) (state : s.desks[d].night.state = x)
    (timer : s.desks[d].night.timer = some (.running deadline)) (past : deadline ≤ s.now) : s.deskDue d x = true := by
  simp only [State.deskDue, run, Run.active, state, timer, DeskTimer.due, past, Bool.not_false, beq_self_eq_true, decide_true,
    Bool.and_self]

/-- R11: a timer set outside PAUSED is a deadline. -/
theorem State.newTimer_active {s : State} {info : RunInfo} {windowDeadline : Nat}
    (run : s.run = .running false info windowDeadline) (seconds : Nat) :
    s.newTimer seconds = .running (s.now + seconds * 1000) := by
  simp only [State.newTimer, run]

/-- R14. -/
theorem discoveryTimeoutEvent_due {s : State} {d : DeskId} (due : s.deskDue d .awake = true) :
    discoveryTimeoutEvent d s = s.failAndSettle d .noDiscovery := if_pos due

/-- R14. -/
theorem joinTimeoutEvent_due {s : State} {d : DeskId} (due : s.deskDue d .offered = true) :
    joinTimeoutEvent d s = s.failAndSettle d .noJoin := if_pos due

section
variable {s : State} {d : DeskId} {info : RunInfo} {windowDeadline : Nat} (run : s.run = .running false info windowDeadline)
include run

/-- R13, below the wake attempt limit. -/
theorem wakeTimeoutEvent_requeues (due : s.deskDue d .waking = true)
    (below : s.desks[d].night.wakeAttempts < info.params.wakeAttemptLimit) :
    wakeTimeoutEvent d s = State.scanAndSettle s
      { s.modifyNight d (fun n => { n with state := .queued, timer := none }) with wakeQueue := s.wakeQueue ++ [d] } := by
  simp only [wakeTimeoutEvent, run, due, below, if_true, State.modifyNight_wakeQueue]

/-- R13, at the wake attempt limit. -/
theorem wakeTimeoutEvent_fails (due : s.deskDue d .waking = true)
    (limit : info.params.wakeAttemptLimit ≤ s.desks[d].night.wakeAttempts) :
    wakeTimeoutEvent d s = s.failAndSettle d .noWake := by
  simp only [wakeTimeoutEvent, run, due, Nat.not_lt.2 limit, if_true, if_false]

/-- R16, below the poll limit. -/
theorem silenceTimeoutEvent_polls (due : s.deskDue d .joined = true) (below : s.desks[d].night.polls < info.params.pollLimit) :
    silenceTimeoutEvent d s =
      (s.modifyNight d fun n =>
        { n with polls := n.polls + 1, timer := some (.running (s.now + info.params.silenceTimeout * 1000)) }).putControl
        (.poll s.desks[d].config.address info.params.runTag (s.desks[d].night.polls + 1)) := by
  simp only [silenceTimeoutEvent, run, due, below, if_true, State.newTimer_active run]

/-- R16, at the poll limit. -/
theorem silenceTimeoutEvent_fails (due : s.deskDue d .joined = true) (limit : info.params.pollLimit ≤ s.desks[d].night.polls) :
    silenceTimeoutEvent d s = s.failAndSettle d .silent := by
  simp only [silenceTimeoutEvent, run, due, Nat.not_lt.2 limit, if_true, if_false]

end

/-- Settles O38: in each state the deadline is due, and the expiry is then its rule's one equation. -/
theorem deskTimersExpire : Obligations.DeskTimersExpire := by
  refine ⟨?waking, ?others⟩
  case waking =>
    intro s d info windowDeadline deadline run n state timer past
    have due : s.deskDue d .waking = true := State.deskDue_active run state timer past
    exact ⟨fun below => congrArg _ (wakeTimeoutEvent_requeues run due below),
      fun limit => congrArg _ (wakeTimeoutEvent_fails run due limit)⟩
  case others =>
    intro s d info windowDeadline deadline run n timer past
    have due {x : DeskState} (state : n.state = x) : s.deskDue d x = true := State.deskDue_active run state timer past
    refine ⟨fun awake => ?_, fun offered => ?_, fun joined limit => ?_, fun joined below => ?_⟩
    · exact congrArg _ (discoveryTimeoutEvent_due (due awake))
    · exact congrArg _ (joinTimeoutEvent_due (due offered))
    · exact congrArg _ (silenceTimeoutEvent_fails run (due joined) limit)
    · exact congrArg _ (silenceTimeoutEvent_polls run (due joined) below)

end Sys2Proof.Machine
end

section
/-! SUPPORT. Circuits and Wake Scheduling (02_circuits_and_wake_scheduling.md): what CIRCUIT WRITE and CIRCUIT READ do on each outcome
of their checks (R22, R24), what a wake of the scan does (R33), what a decay step and a gap expiry do when due (R26 to R28), and the
statements O11, O34 and O36. -/

namespace Sys2Proof.Machine

/-! ## The fields of a CIRCUIT WRITE -/

/-- R22: the record a CIRCUIT WRITE leaves. -/
theorem Circuit.written_eq (f : CircuitFields) (c : Circuit) :
    c.written f = { c with budget := f.budget.getD c.budget, decay := f.decay.getD c.decay,
                           gap := f.gap.elim c.gap (min 10000) } := by
  obtain ⟨budget, decay, gap⟩ := f
  cases gap <;> rfl

/-- R22: only a gap time that the write carries can be limited. -/
theorem CircuitFields.limited_eq (f : CircuitFields) : f.limited = f.gap.any fun g => decide (10000 < g) := by
  obtain ⟨budget, decay, gap⟩ := f
  cases gap <;> rfl

/-! ## CIRCUIT WRITE -/

/-- R22: a mask that names a field there is not, or a body too short for the fields that its mask names. -/
theorem circuitWriteRule_badFormat {r : ProtocolFrame} {s : State}
    (h : 8 ≤ (byteAt (bodyOf r) 1).toNat ∨ parseCircuitFields (byteAt (bodyOf r) 1) ((bodyOf r).drop 2) = none) :
    circuitWriteRule r s = s.refuse r .circuitWrite .badFormat := by
  rcases h with mask | parsed
  · simp [circuitWriteRule, mask]
  · simp only [circuitWriteRule, parsed, ite_self]

section
variable {r : ProtocolFrame} {s : State} {f : CircuitFields} (hl : 2 ≤ (bodyOf r).length) (hm : (byteAt (bodyOf r) 1).toNat < 8)
  (hf : parseCircuitFields (byteAt (bodyOf r) 1) ((bodyOf r).drop 2) = some f)
include hl hm hf

/-- R22: an id above 7. -/
theorem circuitWriteRule_badIndex (hc : circuitOf? (byteAt (bodyOf r) 0).toNat = none) :
    circuitWriteRule r s = s.refuse r .circuitWrite .badIndex := by
  simp [circuitWriteRule, hf, hc, Nat.not_lt.2 hl, Nat.not_le.2 hm]

/-- R22: a CIRCUIT WRITE that passes every check. -/
theorem circuitWriteRule_written {c : CircuitId} (hc : circuitOf? (byteAt (bodyOf r) 0).toNat = some c) :
    circuitWriteRule r s =
      State.answer { s with circuits := s.circuits.set c ((s.circuits[c]).written f) } r .circuitWrite
        (if f.limited then .clamped else .ok) (beBytes 1 c.val ++ ((s.circuits[c]).written f).bytes s.now) := by
  simp [circuitWriteRule, hf, hc, Nat.not_lt.2 hl, Nat.not_le.2 hm]

end

/-! ## CIRCUIT READ -/

theorem circuitReadRule_badIndex {r : ProtocolFrame} {s : State} (hl : 1 ≤ (bodyOf r).length)
    (hc : circuitOf? (byteAt (bodyOf r) 0).toNat = none) : circuitReadRule r s = s.refuse r .circuitRead .badIndex := by
  simp only [circuitReadRule, Nat.not_lt.2 hl, hc, if_false]

/-- R24: a CIRCUIT READ of a record. -/
theorem circuitReadRule_reports {r : ProtocolFrame} {s : State} {c : CircuitId} (hl : 1 ≤ (bodyOf r).length)
    (hc : circuitOf? (byteAt (bodyOf r) 0).toNat = some c) : circuitReadRule r s =
      s.answer r .circuitRead .ok (beBytes 1 c.val ++ (s.circuits[c]).bytes s.now) := by
  simp only [circuitReadRule, Nat.not_lt.2 hl, hc, if_false]

/-- Settles O11: each outcome of the checks of R22 and R24 is one equation of the request's rule, after the arrival is counted. -/
theorem circuitWriteAndRead : Obligations.CircuitWriteAndRead := by
  intro r s b id record
  refine ⟨fun admits => ⟨?badFormat, fun f long mask parsed => ?parsed⟩, fun admits => ⟨?readShort, ?readBadIndex, ?reports⟩⟩
  case badFormat =>
    intro check
    by_cases short : r.bodyLen < 2
    · exact exec_admitted_short admits short
    · exact (exec_admitted admits (Nat.le_of_not_lt short)).trans
        (congrArg _ (circuitWriteRule_badFormat (check.resolve_left short)))
  case parsed =>
    have body : 2 ≤ (bodyOf r).length := admits.body_length ▸ long
    refine ⟨fun above => ?badIndex, fun c hc => ?written⟩
    case badIndex =>
      exact (exec_admitted admits long).trans (congrArg _ (circuitWriteRule_badIndex body mask parsed (circuitOf_none above)))
    case written =>
      intro old new
      have record_eq : old.written f = new := Circuit.written_eq f old
      rw [← hc, ← f.limited_eq, ← record_eq]
      exact (exec_admitted admits long).trans (congrArg _ (circuitWriteRule_written body mask parsed (circuitOf_val hc)))
  case readShort => exact exec_admitted_short admits
  case readBadIndex =>
    intro long above
    have body : 1 ≤ (bodyOf r).length := admits.body_length ▸ long
    exact (exec_admitted admits long).trans (congrArg _ (circuitReadRule_badIndex body (circuitOf_none above)))
  case reports =>
    intro c long hc
    have body : 1 ≤ (bodyOf r).length := admits.body_length ▸ long
    rw [← hc]
    exact (exec_admitted admits long).trans (congrArg _ (circuitReadRule_reports body (circuitOf_val hc)))

/-! ## The scan -/

/-- R31, step 1. -/
theorem State.overBudget_iff (s : State) (d : DeskId) :
    s.overBudget d = true ↔ (s.circuits[s.desks[d].config.circuit]).budget = 0 ∨
      (s.circuits[s.desks[d].config.circuit]).budget < s.desks[d].config.weight := by
  simp [State.overBudget]

/-- R31, step 2. -/
theorem State.eligible_iff (s : State) (d : DeskId) :
    s.eligible d = true ↔
      (s.circuits[s.desks[d].config.circuit]).load + s.desks[d].config.weight ≤ (s.circuits[s.desks[d].config.circuit]).budget ∧
      (s.circuits[s.desks[d].config.circuit]).gapTimer = none ∧ s.controlQueue.length < 16 := by
  simp only [State.eligible, Bool.and_eq_true, decide_eq_true_eq, Option.isNone_iff_eq_none, and_assoc]
  rfl

/-- R144: a put at a Control Queue with room. -/
theorem State.putControl_room {s : State} (room : s.controlQueue.length < 16) (f : ControlFrame) :
    s.putControl f = { s with controlQueue := s.controlQueue ++ [f] } := if_pos room

/-- R25, R28, R33: a wake charges a circuit whose gap timer is absent. -/
theorem Circuit.charged_eq {c : Circuit} (gap : c.gapTimer = none) (now weight : Nat) :
    c.charged now weight = { c with load := min (c.load + weight) 65535,
                                    gapTimer := if 0 < c.gap then some (now + c.gap) else none } := by
  rw [Circuit.charged, gap]; rfl

/-- R33: a wake in ACTIVE, with room in the Control Queue. -/
theorem State.wakeDesk_room {s : State} {info : RunInfo} {deadline : Nat} (run : s.run = .running false info deadline)
    (room : s.controlQueue.length < 16) (d : DeskId) :
    s.wakeDesk info d = { s.withoutQueued d with
      desks := s.desks.set d { s.desks[d] with
        night := { s.desks[d].night with wakeAttempts := s.desks[d].night.wakeAttempts + 1, state := .waking,
                                         timer := some (.running (s.now + info.params.wakeTimeout * 1000)) } }
      controlQueue := s.controlQueue ++ [.wake info.params.runTag s.desks[d].config.address]
      circuits := s.circuits.set s.desks[d].config.circuit
        ((s.circuits[s.desks[d].config.circuit]).charged s.now s.desks[d].config.weight) } := by
  have put (f : Night → Night) := State.putControl_room
    (s := State.modifyNight { s with wakeQueue := s.wakeQueue.filter (· != d) } d f) room
    (.wake info.params.runTag s.desks[d].config.address)
  simp only [State.wakeDesk, State.newTimer_active run, put]
  rfl

/-- Settles O34: the three cases of `State.scanDesk_cases` are those of the statement. -/
theorem scanConsidersDesk : Obligations.ScanConsidersDesk := by
  intro s info deadline failed d run cfg n c tooBig eligible without
  have over_iff : s.overBudget d = true ↔ tooBig := s.overBudget_iff d
  have eligible_iff : s.eligible d = true ↔ eligible := s.eligible_iff d
  rcases State.scanDesk_cases info s failed d with ⟨exceeds, fails⟩ | ⟨fits, able, wakes⟩ | ⟨fits, unable, stays⟩
  · have big : tooBig := over_iff.1 exceeds
    exact ⟨fun _ => fails, fun small => absurd big small, fun small => absurd big small⟩
  · have small : ¬ tooBig := fun big => Bool.eq_false_iff.1 fits (over_iff.2 big)
    obtain ⟨-, gap, room⟩ := eligible_iff.1 able
    refine ⟨fun big => absurd big small, fun _ _ => ?_, fun _ h => absurd (eligible_iff.1 able) h⟩
    rw [wakes, State.wakeDesk_room run room, Circuit.charged_eq gap]
    rfl
  · have small : ¬ tooBig := fun big => Bool.eq_false_iff.1 fits (over_iff.2 big)
    exact ⟨fun big => absurd big small, fun _ h => absurd (eligible_iff.2 h) (Bool.eq_false_iff.1 unable), fun _ _ => stays⟩

/-! ## Decay and gap timers -/

section
variable {s : State} {paused : Bool} {info : RunInfo} {deadline t : Nat} {c : CircuitId}
  (run : s.run = .running paused info deadline) (past : t ≤ s.now)
include run past

/-- R26, R27: a decay step that is due. -/
theorem decayStepEvent_due (timer : (s.circuits[c]).decayTimer = some t) :
    decayStepEvent c s = State.scanAndSettle s
      { s with circuits := s.circuits.set c ((s.circuits[c]).decayed info.params.decayInterval t) } := by
  simp only [decayStepEvent, run, timer, past, if_true]

/-- R28: a gap expiry that is due. -/
theorem gapExpiryEvent_due (timer : (s.circuits[c]).gapTimer = some t) :
    gapExpiryEvent c s = State.scanAndSettle s
      { s with circuits := s.circuits.set c { s.circuits[c] with gapTimer := none } } := by
  simp only [gapExpiryEvent, run, Run.inProgress, timer, reached, past, decide_true, Bool.and_self, if_true]

end

/-- R26: a decay factor below 256 removes no more than the load. -/
theorem decayAmount_le_load {load decay : Nat} (h : decay < 256) : decayAmount load decay ≤ load := by
  have product : load * decay ≤ load * 255 := Nat.mul_le_mul_left load (Nat.le_of_lt_succ h)
  simp only [decayAmount]; omega

/-- R26: the amount is the least whole number at or above L × D / 256. -/
theorem decayAmount_ceil (load decay : Nat) :
    load * decay ≤ 256 * decayAmount load decay ∧ 256 * decayAmount load decay < load * decay + 256 := by
  simp only [decayAmount]; omega

theorem decayAmount_pos {load decay : Nat} (hl : 0 < load) (hd : 0 < decay) : 1 ≤ decayAmount load decay := by
  have product : 0 < load * decay := Nat.mul_pos hl hd
  simp only [decayAmount]; omega

theorem decayAmount_zero (load : Nat) : decayAmount load 0 = 0 := by
  simp [decayAmount]

/-- Settles O36: a due expiry is its event's one equation, and the amount removed is `decayAmount`. -/
theorem decayStepAndGapExpiry : Obligations.DecayStepAndGapExpiry := by
  refine ⟨?expiries, fun load decay bound => ?amount⟩
  case expiries =>
    intro s paused info deadline c run old
    exact ⟨fun t timer past => congrArg _ (decayStepEvent_due run past timer),
      fun t timer past => congrArg _ (gapExpiryEvent_due run past timer)⟩
  case amount =>
    obtain ⟨above, least⟩ := decayAmount_ceil load decay
    exact ⟨decayAmount_le_load bound, above, least, decayAmount_pos, fun zero => zero ▸ decayAmount_zero load⟩

end Sys2Proof.Machine
end

section
/-! SUPPORT. Boot Discovery Steering (03_boot_discovery_steering.md): the walk of the option area (R45) splits it into pieces and keeps
the first occurrence of each of three options, a frame is parseable when its headers and that walk are good (R44), the conditions of an
answer (R46, R47), and the statement O41. -/

namespace Sys2Proof.Machine

/-! ## The pieces of an option area -/

/-- R45: a list of bytes walks to its end, and the pads and whole options passed on the way. -/
inductive OptionArea : List Byte → List (List Byte) → Prop
  | dataEnd : OptionArea [] []
  | endCode (t : List Byte) : OptionArea (255 :: t) []
  | pad {t : List Byte} {pieces : List (List Byte)} : OptionArea t pieces → OptionArea (0 :: t) ([0] :: pieces)
  | option {code len : Byte} {v t : List Byte} {pieces : List (List Byte)} : code ≠ 0 → code ≠ 255 → v.length = len.toNat →
      OptionArea t pieces → OptionArea (code :: len :: (v ++ t)) ((code :: len :: v) :: pieces)

/-- A pad or a whole option. -/
def IsPiece (x : List Byte) : Prop :=
  x = [0] ∨ ∃ code len v, x = code :: len :: v ∧ code ≠ 0 ∧ code ≠ 255 ∧ v.length = len.toNat

/-- The option areas are the sequences of pieces up to the end of the data or a code of 255. -/
theorem optionArea_iff (area : List Byte) (pieces : List (List Byte)) :
    OptionArea area pieces ↔
      ∃ rest, area = pieces.flatten ++ rest ∧ (rest = [] ∨ rest.head? = some 255) ∧ ∀ x ∈ pieces, IsPiece x := by
  constructor
  · intro walked
    induction walked with
    | dataEnd => exact ⟨[], rfl, .inl rfl, by simp⟩
    | endCode t => exact ⟨255 :: t, rfl, .inr rfl, by simp⟩
    | pad _ ih =>
      obtain ⟨rest, rfl, ended, whole⟩ := ih
      exact ⟨rest, rfl, ended, List.forall_mem_cons.2 ⟨.inl rfl, whole⟩⟩
    | option code_ne_zero code_ne_end length _ ih =>
      obtain ⟨rest, rfl, ended, whole⟩ := ih
      exact ⟨rest, by simp, ended, List.forall_mem_cons.2 ⟨.inr ⟨_, _, _, rfl, code_ne_zero, code_ne_end, length⟩, whole⟩⟩
  · rintro ⟨rest, rfl, ended, whole⟩
    induction pieces with
    | nil =>
      rcases ended with rfl | ended
      · exact .dataEnd
      · obtain ⟨t, rfl⟩ := List.head?_eq_some_iff.1 ended
        exact .endCode t
    | cons x pieces ih =>
      obtain ⟨piece, others⟩ := List.forall_mem_cons.1 whole
      rcases piece with rfl | ⟨code, len, v, rfl, code_ne_zero, code_ne_end, length⟩
      · exact .pad (ih others)
      · simpa using OptionArea.option code_ne_zero code_ne_end length (ih others)

/-! ## The first occurrence of an option -/

/-- The value of the first piece with a code. -/
def firstOption (pieces : List (List Byte)) (code : Byte) : Option (List Byte) :=
  (pieces.find? fun x => x.head? == some code).map (List.drop 2)

/-- The value of one option, where it has the code looked for. -/
def valueOf (wanted code : Byte) (value : List Byte) : Option (List Byte) := if code = wanted then some value else none

theorem valueOf_same (code : Byte) (v : List Byte) : valueOf code code v = some v := if_pos rfl

theorem valueOf_other {wanted code : Byte} (h : code ≠ wanted) (v : List Byte) : valueOf wanted code v = none := if_neg h

theorem firstOption_pad {wanted : Byte} (h : wanted ≠ 0) (pieces : List (List Byte)) :
    firstOption ([0] :: pieces) wanted = firstOption pieces wanted := by
  rw [firstOption, List.find?_cons_of_neg (by simpa using h.symm), firstOption]

theorem firstOption_option (wanted code len : Byte) (v : List Byte) (pieces : List (List Byte)) :
    firstOption ((code :: len :: v) :: pieces) wanted = (valueOf wanted code v).or (firstOption pieces wanted) := by
  by_cases h : code = wanted <;> simp [firstOption, valueOf, h]

/-! ## What is kept of the options -/

/-- What a field of `BootOptions` becomes when an option of its code is met, or none is: a field that is set stays; none where
the option cannot be read. -/
def keep {α : Type} (read : List Byte → Option α) : Option α → Option (List Byte) → Option (Option α)
  | none, some v => (read v).map some
  | old, _ => some old

theorem keep_absent {α : Type} (read : List Byte → Option α) (old : Option α) : keep read old none = some old := by
  cases old <;> rfl

/-- Of two occurrences the first decides. -/
theorem keep_or {α : Type} (read : List Byte → Option α) (old : Option α) (x y : Option (List Byte)) :
    keep read old (x.or y) = (keep read old x).bind fun o => keep read o y := by
  cases x with
  | none => simp [keep_absent]
  | some v =>
    cases old with
    | some a => rfl
    | none => cases h : read v <;> simp [keep, h]

theorem keep_none_eq_some {α : Type} {read : List Byte → Option α} {found : Option (List Byte)} {new : Option α} :
    keep read none found = some new ↔ (found = none ∧ new = none) ∨ ∃ v a, found = some v ∧ read v = some a ∧ new = some a := by
  cases found with
  | none => simp [keep, eq_comm]
  | some v => simp [keep, eq_comm]

/-- R45: a message type has length 1. -/
def readMessageType (v : List Byte) : Option Nat := if v.length = 1 then some (byteAt v 0).toNat else none

/-- R45: a server identifier has length 4. -/
def readServer (v : List Byte) : Option Ipv4 := if v.length = 4 then some (ipAt v 0) else none

theorem readMessageType_eq_some {v : List Byte} {n : Nat} : readMessageType v = some n ↔ ∃ t : Byte, v = [t] ∧ n = t.toNat := by
  constructor
  · intro h
    obtain ⟨length, value⟩ := Option.ite_none_right_eq_some.1 h
    obtain ⟨t, rfl⟩ := List.length_eq_one_iff.1 length
    exact ⟨t, rfl, (Option.some.inj value).symm⟩
  · rintro ⟨t, rfl, rfl⟩
    rfl

theorem readServer_eq_some {v : List Byte} {a : Ipv4} : readServer v = some a ↔ v.length = 4 ∧ a = ipAt v 0 := by
  simp [readServer, eq_comm]

/-- R45: each field of the options kept, from what it was and the value found for it. -/
def Kept (o : BootOptions) (found : Byte → Option (List Byte)) (o' : BootOptions) : Prop :=
  keep readMessageType o.messageType (found 53) = some o'.messageType ∧
  keep some o.vendorClass (found 60) = some o'.vendorClass ∧
  keep readServer o.server (found 54) = some o'.server

theorem kept_nil_iff (o o' : BootOptions) : Kept o (firstOption []) o' ↔ o = o' := by
  cases o; cases o'; simp [Kept, firstOption, keep_absent]

theorem kept_or_iff (o o' : BootOptions) (x y : Byte → Option (List Byte)) :
    Kept o (fun code => (x code).or (y code)) o' ↔ ∃ o₁, Kept o x o₁ ∧ Kept o₁ y o' := by
  simp only [Kept, keep_or, Option.bind_eq_some_iff]
  constructor
  · rintro ⟨⟨m, hm, hm'⟩, ⟨c, hc, hc'⟩, ⟨a, ha, ha'⟩⟩
    exact ⟨⟨m, c, a⟩, ⟨hm, hc, ha⟩, hm', hc', ha'⟩
  · rintro ⟨o₁, ⟨hm, hc, ha⟩, hm', hc', ha'⟩
    exact ⟨⟨_, hm, hm'⟩, ⟨_, hc, hc'⟩, ⟨_, ha, ha'⟩⟩

/-! ## The walk -/

theorem takeOption_messageType (o : BootOptions) (v : List Byte) :
    takeOption o 53 v = (keep readMessageType o.messageType (some v)).map fun m => { o with messageType := m } := by
  obtain ⟨messageType, vendorClass, server⟩ := o
  cases messageType with
  | none => by_cases length : v.length = 1 <;> simp [takeOption, keep, readMessageType, length]
  | some n => rfl

theorem takeOption_vendorClass (o : BootOptions) (v : List Byte) :
    takeOption o 60 v = (keep some o.vendorClass (some v)).map fun c => { o with vendorClass := c } := by
  obtain ⟨messageType, vendorClass, server⟩ := o
  cases vendorClass <;> rfl

theorem takeOption_server (o : BootOptions) (v : List Byte) :
    takeOption o 54 v = (keep readServer o.server (some v)).map fun a => { o with server := a } := by
  obtain ⟨messageType, vendorClass, server⟩ := o
  cases server with
  | none => by_cases length : v.length = 4 <;> simp [takeOption, keep, readServer, length]
  | some a => rfl

theorem takeOption_other {code : Byte} (type : code ≠ 53) (vendor : code ≠ 60) (server : code ≠ 54) (o : BootOptions)
    (v : List Byte) : takeOption o code v = some o := by
  simp only [takeOption, type, vendor, server, decide_false, Bool.false_and, Bool.false_eq_true, if_false]

/-- R45: one option sets the field of its code where that is not yet set. -/
theorem takeOption_eq_some_iff (o o' : BootOptions) (code : Byte) (v : List Byte) :
    takeOption o code v = some o' ↔ Kept o (fun wanted => valueOf wanted code v) o' := by
  obtain ⟨m', c', a'⟩ := o'
  by_cases type : code = 53
  · subst type
    simp (disch := decide) only [takeOption_messageType, Kept, valueOf_same, valueOf_other, keep_absent]
    simp
  by_cases vendor : code = 60
  · subst vendor
    simp (disch := decide) only [takeOption_vendorClass, Kept, valueOf_same, valueOf_other, keep_absent]
    simp [and_left_comm]
  by_cases server : code = 54
  · subst server
    simp (disch := decide) only [takeOption_server, Kept, valueOf_same, valueOf_other, keep_absent]
    simp [and_comm, and_assoc]
  obtain ⟨m, c, a⟩ := o
  rw [takeOption_other type vendor server, Kept, valueOf_other type, valueOf_other vendor, valueOf_other server]
  simp [keep_absent]

theorem kept_pad_iff (o o' : BootOptions) (pieces : List (List Byte)) :
    Kept o (firstOption ([0] :: pieces)) o' ↔ Kept o (firstOption pieces) o' := by
  simp (disch := decide) only [Kept, firstOption_pad]

theorem kept_option_iff (o o' : BootOptions) (code len : Byte) (v : List Byte) (pieces : List (List Byte)) :
    Kept o (firstOption ((code :: len :: v) :: pieces)) o' ↔
      ∃ o₁, takeOption o code v = some o₁ ∧ Kept o₁ (firstOption pieces) o' := by
  have split : firstOption ((code :: len :: v) :: pieces) =
      fun wanted => (valueOf wanted code v).or (firstOption pieces wanted) :=
    funext fun wanted => firstOption_option wanted code len v pieces
  simp only [split, kept_or_iff, takeOption_eq_some_iff]

/-- R45: one step of the walk, over a whole option. -/
theorem walkOptions_option {code len : Byte} (code_ne_zero : code ≠ 0) (code_ne_end : code ≠ 255) {v : List Byte}
    (length : v.length = len.toNat) (t : List Byte) (n : Nat) (o : BootOptions) :
    walkOptions (n + 1) (code :: len :: (v ++ t)) o = (takeOption o code v).bind (walkOptions n t) := by
  simp only [walkOptions, code_ne_zero, code_ne_end, ← length, List.length_append, Nat.not_lt.2 (Nat.le_add_right _ _),
    List.take_left, List.drop_left, if_false]
  cases takeOption o code v <;> rfl

/-- R45: a walk that does not fail splits the area into pieces and keeps the first occurrences among them. -/
theorem walkOptions_sound {n : Nat} {area : List Byte} {o o' : BootOptions} (fuel : area.length ≤ n)
    (walked : walkOptions n area o = some o') : ∃ pieces, OptionArea area pieces ∧ Kept o (firstOption pieces) o' := by
  fun_induction walkOptions n area o with
  | case1 area o =>
    obtain rfl := List.eq_nil_of_length_eq_zero (Nat.le_zero.1 fuel)
    exact ⟨[], .dataEnd, (kept_nil_iff _ _).2 (Option.some.inj walked)⟩
  | case2 n o => exact ⟨[], .dataEnd, (kept_nil_iff _ _).2 (Option.some.inj walked)⟩
  | case3 n t o ih =>
    obtain ⟨pieces, rest, kept⟩ := ih (Nat.le_of_succ_le_succ fuel) walked
    exact ⟨[0] :: pieces, .pad rest, (kept_pad_iff _ _ _).2 kept⟩
  | case4 n t o => exact ⟨[], .endCode t, (kept_nil_iff _ _).2 (Option.some.inj walked)⟩
  | case5 | case6 | case8 => cases walked
  | case7 n code o code_ne_zero code_ne_end len v fits o₁ taken ih =>
    have long : len.toNat ≤ v.length := Nat.le_of_not_lt fits
    have left : (v.drop len.toNat).length ≤ n := by simp only [List.length_cons, List.length_drop] at fuel ⊢; omega
    obtain ⟨pieces, rest, kept⟩ := ih left walked
    have area := OptionArea.option code_ne_zero code_ne_end (List.length_take_of_le long) rest
    rw [List.take_append_drop] at area
    exact ⟨_, area, (kept_option_iff _ _ _ _ _ _).2 ⟨o₁, taken, kept⟩⟩

/-- R45: the walk takes the pieces of an option area one by one, and ends with the last. -/
theorem walkOptions_complete {n : Nat} {area : List Byte} {pieces : List (List Byte)} {o o' : BootOptions}
    (walked : OptionArea area pieces) (fuel : area.length ≤ n) (kept : Kept o (firstOption pieces) o') :
    walkOptions n area o = some o' := by
  induction walked generalizing n o with
  | dataEnd =>
    obtain rfl := (kept_nil_iff o o').1 kept
    cases n <;> rfl
  | endCode t =>
    obtain rfl := (kept_nil_iff o o').1 kept
    cases n with
    | zero => cases fuel
    | succ n => rfl
  | pad _ ih =>
    cases n with
    | zero => cases fuel
    | succ n => exact ih (Nat.le_of_succ_le_succ fuel) ((kept_pad_iff _ _ _).1 kept)
  | option code_ne_zero code_ne_end length _ ih =>
    obtain ⟨o₁, taken, kept⟩ := (kept_option_iff _ _ _ _ _ _).1 kept
    cases n with
    | zero => cases fuel
    | succ n =>
      rw [walkOptions_option code_ne_zero code_ne_end length, taken]
      exact ih (by simp only [List.length_cons, List.length_append] at fuel; omega) kept

/-- R45: the walk of an area, with a step for each of its bytes. -/
theorem walkOptions_eq_some_iff (area : List Byte) (o o' : BootOptions) :
    walkOptions area.length area o = some o' ↔ ∃ pieces, OptionArea area pieces ∧ Kept o (firstOption pieces) o' :=
  ⟨walkOptions_sound (Nat.le_refl _), fun ⟨_, walked, kept⟩ => walkOptions_complete walked (Nat.le_refl _) kept⟩

/-- R45: what a walk that found a message type keeps. -/
theorem kept_fresh_iff (found : Byte → Option (List Byte)) (type : Nat) (vendor : Option (List Byte)) (server : Option Ipv4) :
    Kept ⟨none, none, none⟩ found ⟨some type, vendor, server⟩ ↔
      (∃ t : Byte, found 53 = some [t] ∧ type = t.toNat) ∧ vendor = found 60 ∧
        ((found 54 = none ∧ server = none) ∨ ∃ v, found 54 = some v ∧ v.length = 4 ∧ server = some (ipAt v 0)) := by
  have vendor_iff : keep some none (found 60) = some vendor ↔ vendor = found 60 := by
    cases found 60 <;> simp [keep, eq_comm]
  have type_iff : keep readMessageType none (found 53) = some (some type) ↔ ∃ t : Byte, found 53 = some [t] ∧ type = t.toNat := by
    simp [keep_none_eq_some, readMessageType_eq_some]
  have server_iff : keep readServer none (found 54) = some server ↔
      (found 54 = none ∧ server = none) ∨ ∃ v, found 54 = some v ∧ v.length = 4 ∧ server = some (ipAt v 0) := by
    simp [keep_none_eq_some, readServer_eq_some]
  rw [Kept, type_iff, vendor_iff, server_iff]

/-! ## Parsing -/

/-- The words of a frame's IPv4 header. -/
def headerWords (f : List Byte) : Nat := (byteAt f 14).toNat % 16

/-- The option area of a frame, from the byte after the option marker up to the end of the UDP data. -/
def optionArea (f : List Byte) : List Byte :=
  (f.drop (22 + 4 * headerWords f + 240)).take (beNat f (18 + 4 * headerWords f) 2 - 248)

/-- R44: the fixed fields kept from a frame whose boot message is at position m. -/
def FixedFields (f : List Byte) (m : Nat) (q : Discovery) : Prop :=
  q.transaction = BitVec.ofNat 32 (beNat f (m + 4) 4) ∧ q.bootFlags = BitVec.ofNat 16 (beNat f (m + 10) 2) ∧
  q.clientAddress = BitVec.ofNat 32 (beNat f (m + 12) 4) ∧ q.gateway = ipAt f (m + 24) ∧ q.client = macAt f (m + 28)

/-- The UDP length stands 4 bytes into the UDP header. -/
theorem udpLength_place (h : Nat) : 14 + 4 * h + 4 = 18 + 4 * h := by omega

/-- The boot message follows the 8 bytes of the UDP header. -/
theorem bootMessage_place (h : Nat) : 14 + 4 * h + 8 = 22 + 4 * h := by omega

/-- R44: a UDP length of at least 248 that the IPv4 data holds. -/
theorem udpLength_fits_iff (udpLength total header : Nat) (rest : Prop) :
    248 ≤ udpLength ∧ udpLength ≤ total - header ∧ rest ↔ 248 ≤ udpLength ∧ udpLength + header ≤ total ∧ rest :=
  and_congr_right fun least => and_congr_left' (by omega)

/-- R44: the checks on the headers and the fixed part. -/
theorem bootHeaderGood_iff (f : List Byte) :
    let h := headerWords f
    let total := beNat f 16 2
    let udpLength := beNat f (18 + 4 * h) 2
    let m := 22 + 4 * h
    bootHeaderGood f = true ↔
      beNat f 12 2 = 0x0800 ∧ (byteAt f 14).toNat / 16 = 4 ∧ 5 ≤ h ∧ 4 * h + 8 ≤ total ∧ total + 14 ≤ f.length ∧
      onesSum ((f.drop 14).take (4 * h)) = 65535 ∧ beNat f 20 2 % 16384 = 0 ∧ byteAt f 23 = 17 ∧ beNat f (16 + 4 * h) 2 = 67 ∧
      248 ≤ udpLength ∧ udpLength + 4 * h ≤ total ∧ byteAt f m = 1 ∧ byteAt f (m + 1) = 1 ∧ byteAt f (m + 2) = 6 ∧
      beNat f (m + 236) 4 = 0x63825363 := by
  intro h total udpLength m
  have udpPort_place : 14 + 4 * headerWords f + 2 = 16 + 4 * headerWords f := by omega
  have byte_eq_iff (i : Nat) (c : Byte) : byteAt f i = c ↔ (byteAt f i).toNat = c.toNat := BitVec.toNat_inj.symm
  rw [← udpLength_fits_iff, byte_eq_iff 23, byte_eq_iff m, byte_eq_iff (m + 1), byte_eq_iff (m + 2)]
  simp only [bootHeaderGood, Bool.and_eq_true, beq_iff_eq, decide_eq_true_eq, and_assoc, ← headerWords.eq_1,
    udpPort_place, udpLength_place, bootMessage_place]
  rfl

/-- R44, R45: a frame read is one whose headers are good and whose walk finds a message type. -/
theorem parseDiscovery_eq_some_iff (f : List Byte) (q : Discovery) :
    parseDiscovery f = some q ↔ bootHeaderGood f = true ∧
      walkOptions (optionArea f).length (optionArea f) ⟨none, none, none⟩ = some ⟨some q.messageType, q.vendorClass, q.server⟩ ∧
      FixedFields f (22 + 4 * headerWords f) q := by
  obtain ⟨transaction, bootFlags, clientAddress, gateway, client, type, vendor, server⟩ := q
  simp only [parseDiscovery, ← headerWords.eq_1, udpLength_place, bootMessage_place, ← optionArea.eq_1]
  by_cases good : bootHeaderGood f = true
  · cases walked : walkOptions (optionArea f).length (optionArea f) ⟨none, none, none⟩ with
    | none => simp [good]
    | some o =>
      obtain ⟨typeKept, vendorKept, serverKept⟩ := o
      cases typeKept with
      | none => simp [good]
      | some n =>
        simp only [good, if_true, Option.map_some, true_and]
        constructor
        · rintro ⟨⟩
          exact ⟨rfl, rfl, rfl, rfl, rfl, rfl⟩
        · rintro ⟨⟨⟩, rfl, rfl, rfl, rfl, rfl⟩
          rfl
  · simp [good]

/-! ## Qualification -/

/-- R47. -/
theorem carriesMarker_iff (marker : List Byte) (vendor : Option (List Byte)) :
    carriesMarker marker vendor = true ↔
      marker = [] ∨ ∃ v, vendor = some v ∧ marker.length ≤ v.length ∧ v.take marker.length = marker := by
  cases vendor with
  | none => simp [carriesMarker]
  | some v =>
    have starts_iff : marker <+: v ↔ v.take marker.length = marker := by rw [List.prefix_iff_eq_take, eq_comm]
    simp only [carriesMarker, List.isPrefixOf_iff_prefix, starts_iff, Option.some.injEq, exists_eq_left']
    constructor
    · exact fun starts => .inr ⟨(starts_iff.2 starts).length_le, starts⟩
    · rintro (rfl | ⟨-, starts⟩)
      · rfl
      · exact starts

theorem DeskState.answerable_iff (x : DeskState) : x.answerable = true ↔ x = .awake ∨ x = .offered ∨ x = .joined := by
  cases x <;> simp [DeskState.answerable]

/-- R46, condition 8, of a frame that meets condition 2. -/
theorem serverCondition_iff {type : Nat} (asked : type = 1 ∨ type = 3) (server : Option Ipv4) (bootServer : Ipv4) :
    (type = 1 ∨ server = none) ∨ server = some bootServer ↔ (type = 3 → server = none ∨ server = some bootServer) := by
  rcases asked with rfl | rfl <;> simp

/-- R46: the eight conditions. -/
theorem State.qualifies_eq_some_iff (s : State) (q : Discovery) (info : RunInfo) (d : DeskId) :
    s.qualifies q = some (info, d) ↔
      (∃ paused deadline, s.run = .running paused info deadline) ∧ (q.messageType = 1 ∨ q.messageType = 3) ∧ q.gateway = 0 ∧
      s.lookup q.client = some d ∧ (s.desks[d].night.state).answerable = true ∧ s.desks[d].config.lease ≠ 0 ∧
      carriesMarker info.params.marker q.vendorClass = true ∧
      (q.messageType = 3 → q.server = none ∨ q.server = some info.params.bootServer) := by
  unfold State.qualifies
  cases s.run with
  | standby | closed => simp
  | running paused info' deadline =>
    cases s.lookup q.client with
    | none => simp
    | some e =>
      simp only [Option.ite_none_right_eq_some, Bool.and_eq_true, Bool.or_eq_true, beq_iff_eq, bne_iff_ne,
        Option.isNone_iff_eq_none]
      constructor
      · rintro ⟨⟨⟨⟨asked, gateway⟩, marker⟩, server⟩, ⟨answerable, lease⟩, ⟨⟩⟩
        exact ⟨⟨_, _, rfl⟩, asked, gateway, rfl, answerable, lease, marker, (serverCondition_iff asked _ _).1 server⟩
      · rintro ⟨⟨_, _, ⟨⟩⟩, asked, gateway, ⟨⟩, answerable, lease, marker, server⟩
        exact ⟨⟨⟨⟨asked, gateway⟩, marker⟩, (serverCondition_iff asked _ _).2 server⟩, ⟨answerable, lease⟩, rfl⟩

/-- Settles O41: a parseable frame is one of good headers whose option area the walk splits into pieces, and the conditions of R46 are
those of `State.qualifies`. -/
theorem discoveryQualifies : Obligations.DiscoveryQualifies := by
  refine ⟨?parse, ?qualify⟩
  case parse =>
    intro f q h total udpLength m
    rw [parseDiscovery_eq_some_iff, walkOptions_eq_some_iff]
    refine and_congr (bootHeaderGood_iff f) ⟨?reads, ?parses⟩
    case reads =>
      rintro ⟨⟨pieces, area, kept⟩, fixed⟩
      obtain ⟨rest, split, ended, whole⟩ := (optionArea_iff _ _).1 area
      obtain ⟨type, vendor, server⟩ := (kept_fresh_iff _ _ _ _).1 kept
      exact ⟨pieces, rest, split, ended, whole, type, vendor, server, fixed⟩
    case parses =>
      rintro ⟨pieces, rest, split, ended, whole, type, vendor, server, fixed⟩
      have area : OptionArea (optionArea f) pieces := (optionArea_iff _ _).2 ⟨rest, split, ended, whole⟩
      exact ⟨⟨pieces, area, (kept_fresh_iff _ _ _ _).2 ⟨type, vendor, server⟩⟩, fixed⟩
  case qualify =>
    intro s q info d
    rw [State.qualifies_eq_some_iff, carriesMarker_iff, DeskState.answerable_iff]

end Sys2Proof.Machine
end

section
/-! SUPPORT. The Block Ring and the end of a transmission (04_the_block_ring.md, 05_the_stream_engine_and_repair.md): what BLOCK MORE does
on each outcome of its checks (R63), what a RING FLUSH leaves (R75), what the handing of a fragment does (R82, R86, R78), and the
statements O26, O29 and O51. -/

namespace Sys2Proof.Machine

/-! ## The checks on a fragment -/

/-- R62, R63: a fragment index that the block has not. -/
theorem fragmentFault_index {length i dataLength : Nat} (above : fragmentCount length ≤ i) :
    fragmentFault length i dataLength = some .badFormat := if_pos above

/-- R62, R63: a data length other than the index requires. -/
theorem fragmentFault_dataLength {length i dataLength : Nat} (index : i < fragmentCount length)
    (wrong : dataLength ≠ fragmentLength length i) : fragmentFault length i dataLength = some .badLength :=
  (if_neg (Nat.not_le.2 index)).trans (if_pos wrong)

theorem fragmentFault_none {length i dataLength : Nat} (index : i < fragmentCount length)
    (right : dataLength = fragmentLength length i) : fragmentFault length i dataLength = none :=
  (if_neg (Nat.not_le.2 index)).trans (if_neg (not_not.2 right))

/-! ## BLOCK MORE -/

section
variable {r : ProtocolFrame} {s : State} (long : 1 ≤ (bodyOf r).length)
include long

theorem blockMoreRule_noOpenBlock (closed : (s.slots[s.fill]).isFilling = false) :
    blockMoreRule r s = s.refuse r .blockMore .noOpenBlock := by
  simp only [blockMoreRule, Nat.not_lt.2 long, if_false]
  cases slot : s.slots[s.fill] with
  | filling h map => simp [slot, Slot.isFilling] at closed
  | empty | ready | sent => rfl

variable {h : BlockHeader} {map : Vector Bool 8} (slot : s.slots[s.fill] = .filling h map)
include slot

/-- R63: a fragment that the open block's header does not allow. -/
theorem blockMoreRule_refused {status : Status}
    (fault : fragmentFault h.length (byteAt (bodyOf r) 0).toNat ((bodyOf r).length - 1) = some status) :
    blockMoreRule r s = s.refuse r .blockMore status := by
  simp only [blockMoreRule, Nat.not_lt.2 long, slot, fault, if_false]

/-- R63: a fragment that passes both checks. -/
theorem blockMoreRule_taken {i : Fin 8} (index : i.val = (byteAt (bodyOf r) 0).toNat)
    (passed : fragmentFault h.length (byteAt (bodyOf r) 0).toNat ((bodyOf r).length - 1) = none) :
    blockMoreRule r s = ringAnswer s r .blockMore (s.takeFragment h map i ((bodyOf r).drop 1)) := by
  simp only [blockMoreRule, Nat.not_lt.2 long, slot, passed, fragmentOf_val index, if_false]

end

/-- Settles O26: each outcome of the checks of R63 is one equation of the request's rule, after the arrival is counted. -/
theorem blockMoreReadAgainstOpenBlock : Obligations.BlockMoreReadAgainstOpenBlock := by
  intro r s admits b i s1 refused
  have body : b.length = r.bodyLen := admits.body_length
  have taken (long : 1 ≤ r.bodyLen) : exec (.blockMore r) s = .next (blockMoreRule r s1) := exec_admitted admits long
  refine ⟨exec_admitted_short admits, fun long closed => ?noOpenBlock, fun h map long slot => ?openBlock⟩
  case noOpenBlock =>
    exact (taken long).trans (congrArg _ (blockMoreRule_noOpenBlock (s := s1) (body ▸ long) closed))
  case openBlock =>
    rw [taken long, ← body]
    have refuses {status : Status} (fault : fragmentFault h.length i (b.length - 1) = some status) :
        .next (blockMoreRule r s1) = refused status :=
      congrArg _ (blockMoreRule_refused (s := s1) (body ▸ long) slot fault)
    exact ⟨fun above => refuses (fragmentFault_index above),
      fun index wrong => refuses (fragmentFault_dataLength index wrong),
      fun j hj index right =>
        congrArg _ (blockMoreRule_taken (s := s1) (body ▸ long) slot hj (fragmentFault_none index right))⟩

/-! ## RING FLUSH -/

/-- R114: an insertion with a run parameter record present. -/
theorem State.insertWanted_of_info {s : State} {info : RunInfo} (present : s.run.info? = some info) (f c : Nat) :
    s.insertWanted f c = { s with wanted := insertRange info.params.blockCount s.wanted f c } := by
  simp only [State.insertWanted, present]

/-- R75, step 1: the insertions of one block each, one after another. -/
theorem State.foldl_insertWanted (info : RunInfo) (l : List Nat) (s : State) (present : s.run.info? = some info) :
    l.foldl (fun t q => t.insertWanted q 1) s =
      { s with wanted := l.foldl (fun w q => insertRange info.params.blockCount w q 1) s.wanted } := by
  induction l generalizing s with
  | nil => rfl
  | cons q l ih => rw [List.foldl_cons, State.insertWanted_of_info present]; exact ih _ present

/-- R66: the counters after the emptying of the ring read the slots and the counters alone. -/
theorem State.clearRing_counters_congr {s t : State} (slots : s.slots = t.slots) (counters : s.counters = t.counters) :
    s.clearRing.counters = t.clearRing.counters := by
  have filling : s.anyFilling = t.anyFilling := by simp only [State.anyFilling, slots]
  rw [State.clearRing_counters, State.clearRing_counters, filling]
  split
  · exact State.count_counters_congr counters _
  · exact counters

/-- R75: what a RING FLUSH leaves. -/
theorem State.flushRing_eq {s : State} {info : RunInfo} (present : s.run.info? = some info) :
    s.flushRing = { s with
      wanted := s.owedSequences.foldl (fun w q => insertRange info.params.blockCount w q 1) s.wanted
      slots := Vector.replicate 64 .empty
      counters := (if s.anyFilling then s.count .discards else s).counters
      repairQueue := [], transmission := none, tail := s.fill, current := s.fill } := by
  rw [State.flushRing, State.foldl_insertWanted info _ s present, ← State.clearRing_counters]
  generalize s.owedSequences.foldl _ s.wanted = wanted
  have counters : (State.clearRing { s with wanted := wanted }).counters = s.clearRing.counters :=
    State.clearRing_counters_congr rfl rfl
  rw [← counters, State.clearRing_eq]

/-- R59: a ring of EMPTY slots has 64 of them. -/
theorem State.emptySlots_of_slots_empty {s : State} (empty : s.slots = Vector.replicate 64 .empty) : s.emptySlots = 64 := by
  rw [State.emptySlots, State.occupancy, empty]; rfl

/-- R75: the ring order walks the slots from tail onward. -/
theorem State.owedSequences_eq (s : State) :
    s.owedSequences = (List.finRange 64).filterMap fun k => (s.slots[s.tail + k]).owed := by
  rw [State.owedSequences, State.ringOrder, List.filterMap_map]; rfl

/-- R75: RING FLUSH in PAUSED. -/
theorem ringFlushRule_paused {s : State} {info : RunInfo} {deadline : Nat} (run : s.run = .running true info deadline)
    (r : ProtocolFrame) :
    ringFlushRule r s =
      State.answer (State.ringSpace s s.flushRing) r .ringFlush .ok (beBytes 1 s.owedSequences.length ++ [64]) := by
  have present : s.run.info? = some info := by rw [run]; rfl
  have all_empty : s.flushRing.emptySlots = 64 := State.emptySlots_of_slots_empty (by rw [State.flushRing_eq present])
  simp only [ringFlushRule, run, all_empty]
  rfl

/-- R75: RING FLUSH in any other run state. -/
theorem ringFlushRule_wrongState {s : State} (run : s.run.code ≠ 2) (r : ProtocolFrame) :
    ringFlushRule r s = s.refuse r .ringFlush .wrongState := by
  unfold ringFlushRule
  split
  · next paused => rw [paused] at run; exact absurd rfl run
  · rfl

/-- Settles O29: the outcomes of R75 are the two equations of the request's rule, after the arrival is counted. -/
theorem ringFlushEmptiesRing : Obligations.RingFlushEmptiesRing := by
  intro r s admits
  have taken : exec (.ringFlush r) s = .next (ringFlushRule r (s.count .upstreamIn)) := exec_admitted admits (Nat.zero_le _)
  refine ⟨fun other => taken.trans (congrArg _ (ringFlushRule_wrongState (s := s.count .upstreamIn) other r)), ?paused⟩
  case paused =>
    intro info deadline run owed s1 s2
    have run1 : s1.run = .running true info deadline := run
    have owed_eq : s1.owedSequences = owed := s1.owedSequences_eq
    have flush_eq : s1.flushRing = s2 := by
      rw [State.flushRing_eq (info := info) (by rw [run1]; rfl), owed_eq]; rfl
    rw [taken, ringFlushRule_paused run1, owed_eq, flush_eq]
    rfl

/-! ## The handing of a fragment -/

/-- R86: the frame handed is built before the record moves on or the transmission ends. -/
theorem State.handFragment_frame (s : State) (info : RunInfo) (t : Transmission) :
    (s.handFragment info t).2 = s.fragmentFrame info t := by
  unfold State.handFragment; split <;> rfl

section
variable {s : State} {t : Transmission} {h : BlockHeader} {position firstSend : Nat} {waiting : List DeskId}
  (slot : s.slots[t.slot] = .sent h position firstSend waiting)
include slot

theorem State.slotFragments_sent : s.slotFragments t.slot = fragmentCount h.length := by
  simp only [State.slotFragments, slot]

/-- R86: the frame of a fragment of a SENT slot. -/
theorem State.fragmentFrame_sent (info : RunInfo) :
    s.fragmentFrame info t = vendorFrame info.params.streamGroup s.station Kind.streamData 0
      (streamBody info.params.runTag position h t.next (fragmentCount h.length) (t.kind == .repair)
        (memRead s.blockMem[t.slot] (1024 * t.next) (fragmentLength h.length t.next))) := by
  simp only [State.fragmentFrame, slot, Config.fragmentBytes]

/-- R82: before the last fragment the record moves on. -/
theorem State.handFragment_moves (info : RunInfo) (more : t.next + 1 < fragmentCount h.length) :
    (s.handFragment info t).1 = { s with transmission := some { t with next := t.next + 1 } } := by
  rw [State.handFragment, State.slotFragments_sent slot, if_neg (Nat.not_le.2 more)]

/-- R86: with the last fragment the transmission ends. -/
theorem State.handFragment_ends (info : RunInfo) (last : fragmentCount h.length ≤ t.next + 1) :
    (s.handFragment info t).1 = s.endTransmission t.kind := by
  rw [State.handFragment, State.slotFragments_sent slot, if_pos last]

end

/-! ## The end of a transmission -/

/-- A table has an entry of a sort when one of its places holds one. -/
theorem vector_any_iff {α : Type} {n : Nat} (v : Vector α n) (p : α → Bool) :
    v.toList.any p = true ↔ ∃ i : Fin n, p v[i] = true := by
  rw [Vector.any_toList, Vector.any_eq_true]
  exact ⟨fun ⟨i, hi, at_i⟩ => ⟨⟨i, hi⟩, at_i⟩, fun ⟨i, at_i⟩ => ⟨i, i.isLt, at_i⟩⟩

theorem State.anyReady_iff (s : State) : s.anyReady = true ↔ ∃ i : SlotId, (s.slots[i]).isReady = true :=
  vector_any_iff s.slots Slot.isReady

theorem State.anyFilling_iff (s : State) : s.anyFilling = true ↔ ∃ i : SlotId, (s.slots[i]).isFilling = true :=
  vector_any_iff s.slots Slot.isFilling

/-- R78: nothing is left to send for the first time and no block is being filled. -/
theorem State.drained_iff (s : State) :
    (!s.anyReady && !s.anyFilling) = true ↔ ∀ i : SlotId, (s.slots[i]).isReady = false ∧ (s.slots[i]).isFilling = false := by
  rw [Bool.and_eq_true, Bool.not_eq_true', Bool.not_eq_true', ← Bool.not_eq_true, ← Bool.not_eq_true, s.anyReady_iff,
    s.anyFilling_iff]
  simp only [not_exists, Bool.not_eq_true, forall_and]

/-- R78: the end of a first transmission with the ring drained. -/
theorem State.endTransmission_drained {s : State}
    (drained : ∀ i : SlotId, ((State.retire { s with transmission := none }).slots[i]).isReady = false ∧
      ((State.retire { s with transmission := none }).slots[i]).isFilling = false) :
    s.endTransmission .first = (State.retire { s with transmission := none }).raise .ringDrained [] :=
  if_pos ((State.drained_iff _).2 drained)

/-- R78: the end of a repair. -/
theorem State.endTransmission_repair (s : State) : s.endTransmission .repair = State.retire { s with transmission := none } := rfl

/-- R78: the end of a transmission with a slot READY or FILLING. -/
theorem State.endTransmission_undrained {s : State} (kind : TxKind)
    (left : ∃ i : SlotId, ((State.retire { s with transmission := none }).slots[i]).isReady = true ∨
      ((State.retire { s with transmission := none }).slots[i]).isFilling = true) :
    s.endTransmission kind = State.retire { s with transmission := none } := by
  refine if_neg fun raises => ?_
  rw [Bool.and_assoc, Bool.and_eq_true, State.drained_iff] at raises
  obtain ⟨-, drained⟩ := raises
  obtain ⟨i, ready | filling⟩ := left
  · exact Bool.eq_false_iff.1 (drained i).1 ready
  · exact Bool.eq_false_iff.1 (drained i).2 filling

/-- Settles O51: the frame is `State.fragmentFrame` of a SENT slot, and the next state is the record moved on or `State.endTransmission`. -/
theorem fragmentHandedOrTransmissionEnds : Obligations.FragmentHandedOrTransmissionEnds := by
  intro s info t h position firstSend waiting slot k data body
  refine ⟨?frame, State.handFragment_moves slot info, fun last => ?ends⟩
  case frame => exact (s.handFragment_frame info t).trans (State.fragmentFrame_sent slot info)
  case ends =>
    rw [State.handFragment_ends slot info last]
    refine ⟨fun ⟨first, drained⟩ => ?_, fun quiet => ?_⟩
    · rw [first]; exact State.endTransmission_drained drained
    · rcases quiet with repair | left
      · rw [repair]; exact s.endTransmission_repair
      · exact State.endTransmission_undrained t.kind left

end Sys2Proof.Machine
end

section
/-! SUPPORT. Desk Reports and the Wanted List (06_desk_reports_and_the_wanted_list.md): which JOIN and which REPORT is malformed (R164),
what a JOIN does in each run state and to each desk (R98 to R101), when a REPORT is ignored or answered with FINISH again (R103,
R109), and the statements O45, O47 and O32. -/

namespace Sys2Proof.Machine

/-! ## Desk frames -/

/-- R164: the header's own part of the checks. -/
theorem deskHeaderGood_iff (r : ProtocolFrame) : deskHeaderGood r = true ↔ r.version = 1 ∧ r.bodyLen ≤ r.rest.length := by
  simp only [deskHeaderGood, Bool.and_eq_true, beq_iff_eq, decide_eq_true_eq]

/-- A body within its frame has the length its header gives. -/
theorem bodyOf_length {r : ProtocolFrame} (fits : r.bodyLen ≤ r.rest.length) : (bodyOf r).length = r.bodyLen :=
  List.length_take_of_le fits

theorem ImageStatus.ofCode_eq_some_iff (n : Nat) (image : ImageStatus) : ImageStatus.ofCode? n = some image ↔ n = image.code := by
  constructor
  · intro named
    unfold ImageStatus.ofCode? at named
    split at named <;> cases named <;> rfl
  · rintro rfl
    cases image <;> rfl

/-- R164: a JOIN that is not malformed. -/
theorem parseJoin_eq_some_iff (r : ProtocolFrame) (client : MacAddr) (version : BitVec 16) :
    parseJoin r = some (client, version) ↔
      r.version = 1 ∧ r.bodyLen ≤ r.rest.length ∧ 8 ≤ r.bodyLen ∧ macAt (bodyOf r) 0 ≠ 0 ∧ isGroup (macAt (bodyOf r) 0) = false ∧
      client = macAt (bodyOf r) 0 ∧ version = BitVec.ofNat 16 (beNat (bodyOf r) 6 2) := by
  simp only [parseJoin, Option.ite_none_right_eq_some, Bool.and_eq_true, deskHeaderGood_iff, decide_eq_true_eq, bne_iff_ne,
    Bool.not_eq_true', Option.some.injEq, Prod.mk.injEq, and_assoc]
  refine and_congr_right fun _ => and_congr_right fun fits => ?_
  rw [bodyOf_length fits, eq_comm (b := client), eq_comm (b := version)]

/-- R164: a REPORT that is not malformed. -/
theorem parseReport_eq_some_iff (r : ProtocolFrame) (f : ReportFields) :
    let b := bodyOf r
    let naks := (byteAt b 10).toNat
    let ranges := (byteAt b 11).toNat
    parseReport r = some f ↔
      r.version = 1 ∧ r.bodyLen ≤ r.rest.length ∧ 12 ≤ r.bodyLen ∧ naks ≤ 8 ∧ ranges ≤ 4 ∧ 12 + 4 * naks + 6 * ranges ≤ r.bodyLen ∧
      (byteAt b 9).toNat = f.image.code ∧ f.runTag = BitVec.ofNat 16 (beNat b 0 2) ∧ f.ack = beNat b 2 4 ∧ f.missing = beNat b 6 3 ∧
      f.naks = (List.range naks).map (fun i => beNat b (12 + 4 * i) 4) ∧
      f.ranges = (List.range ranges).map fun i =>
        { first := beNat b (12 + 4 * naks + 6 * i) 3, count := beNat b (12 + 4 * naks + 6 * i + 3) 3 } := by
  intro b naks ranges
  obtain ⟨runTag, ack, missing, image, nakList, rangeList⟩ := f
  simp only [parseReport, Option.ite_none_right_eq_some, Bool.and_eq_true, deskHeaderGood_iff, decide_eq_true_eq, and_assoc,
    Option.map_eq_some_iff, ImageStatus.ofCode_eq_some_iff]
  refine and_congr_right fun _ => and_congr_right fun fits => ?_
  rw [bodyOf_length fits]
  refine and_congr_right fun _ => and_congr_right fun _ => and_congr_right fun _ => and_congr_right fun _ => ⟨?reads, ?parses⟩
  case reads =>
    rintro ⟨_, code, ⟨⟩⟩
    exact ⟨code, rfl, rfl, rfl, rfl, rfl⟩
  case parses =>
    rintro ⟨code, rfl, rfl, rfl, rfl, rfl⟩
    exact ⟨image, code, rfl⟩

/-! ## JOIN -/

/-- R97: a JOIN is taken by the Report Handler after the arrival's own effects. -/
theorem exec_join (r : ProtocolFrame) (s : State) :
    exec (.join r) s = .next (joinRule r ((s.count .roomIn).presence r.src)) := rfl

theorem joinRule_malformed {r : ProtocolFrame} (malformed : parseJoin r = none) (s : State) : joinRule r s = s.ignoreReport := by
  simp only [joinRule, malformed]

theorem joinRule_parsed {r : ProtocolFrame} {client : MacAddr} {version : BitVec 16} (parsed : parseJoin r = some (client, version))
    (s : State) : joinRule r s = s.takeJoin client version := by
  simp only [joinRule, parsed]

/-- R11, R12: a timer set in ACTIVE is a deadline and one set in PAUSED is held. -/
theorem State.newTimer_running {s : State} {paused : Bool} {info : RunInfo} {deadline : Nat}
    (run : s.run = .running paused info deadline) (seconds : Nat) :
    s.newTimer seconds = if paused then .held (seconds * 1000) else .running (s.now + seconds * 1000) := by
  cases paused <;> simp only [State.newTimer, run] <;> rfl

/-- R100: a JOIN-ACCEPT carries the desk's joined position. -/
theorem State.acceptJoin_eq {s : State} {d : DeskId} {position : Nat} (joinedPos : s.desks[d].night.joinedPos = some position)
    (info : RunInfo) (version : BitVec 16) :
    s.acceptJoin info d version = s.putControl (.joinAccept s.desks[d].config.address info.params.runTag version
      info.params.blockCount info.params.imageCheck info.params.streamGroup info.params.reportInterval position) := by
  simp only [State.acceptJoin, joinedPos, Option.getD_some]

/-- R99: the record of the desk that joins. -/
theorem State.joinDesk_desk (s : State) (info : RunInfo) (d : DeskId) :
    (s.joinDesk info d).desks[d] = { s.desks[d] with night := { s.desks[d].night with
      state := .joined, joinedPos := some s.position, polls := 0, timer := some (s.newTimer info.params.silenceTimeout) } } := by
  rw [State.joinDesk, State.modifyNight_desk, if_pos rfl]

theorem State.takeJoin_standby {s : State} (run : s.run = .standby) (client : MacAddr) (version : BitVec 16) :
    s.takeJoin client version = s.ignoreReport := by
  simp only [State.takeJoin, run]

theorem State.takeJoin_closed {s : State} {info : RunInfo} {cause : CloseCause} {left : Nat} (run : s.run = .closed info cause left)
    (client : MacAddr) (version : BitVec 16) : s.takeJoin client version = s.refuseJoin info client version .notRunning := by
  simp only [State.takeJoin, run]

section
variable {s : State} {paused : Bool} {info : RunInfo} {deadline : Nat} {client : MacAddr}
  (run : s.run = .running paused info deadline)
include run

theorem State.takeJoin_unknown (unknown : s.lookup client = none) (version : BitVec 16) :
    s.takeJoin client version = s.refuseJoin info client version .unknown := by
  simp only [State.takeJoin, run, unknown]

variable {d : DeskId} (known : s.lookup client = some d)
include known

theorem State.takeJoin_offered (state : s.desks[d].night.state = .offered) (version : BitVec 16) :
    s.takeJoin client version = (s.joinDesk info d).acceptJoin info d version := by
  simp only [State.takeJoin, run, known, state]

theorem State.takeJoin_joined (state : s.desks[d].night.state = .joined) (version : BitVec 16) :
    s.takeJoin client version = s.acceptJoin info d version := by
  simp only [State.takeJoin, run, known, state]

theorem State.takeJoin_notReady (notOffered : s.desks[d].night.state ≠ .offered) (notJoined : s.desks[d].night.state ≠ .joined)
    (version : BitVec 16) : s.takeJoin client version = s.refuseJoin info client version .notReady := by
  cases state : s.desks[d].night.state with
  | offered => exact absurd state notOffered
  | joined => exact absurd state notJoined
  | idle | queued | waking | awake | complete | failed => simp only [State.takeJoin, run, known, state]

end

/-- Settles O45: each row of the JOIN table is one equation of `State.takeJoin` on the state after the arrival's own effects. -/
theorem joinDecidedByTable : Obligations.JoinDecidedByTable := by
  refine ⟨parseJoin_eq_some_iff, ?taken⟩
  intro r s s1
  refine ⟨fun malformed => congrArg _ (joinRule_malformed malformed s1), ?parsed⟩
  intro client version parsed refused
  have run_eq : s1.run = s.run := State.presence_run _ _
  have now_eq : s1.now = s.now := State.presence_now _ _
  have position_eq : s1.position = s.position := State.presence_position _ _
  rw [exec_join, joinRule_parsed parsed, ← run_eq, ← now_eq, ← position_eq]
  refine ⟨fun standby => congrArg _ (State.takeJoin_standby standby _ _),
    fun info cause left closed => congrArg _ (State.takeJoin_closed closed _ _), fun paused info deadline run => ?running⟩
  refine ⟨fun unknown => congrArg _ (State.takeJoin_unknown run unknown _), ?known⟩
  intro d known n accept
  refine ⟨?offered, ?joined, ?notReady⟩
  case offered =>
    intro offered
    have record := s1.joinDesk_desk info d
    rw [State.takeJoin_offered run known offered, State.acceptJoin_eq (position := s1.position) (by rw [record]), record,
      State.joinDesk, State.newTimer_running run]
    rfl
  case joined =>
    intro position joined joinedPos
    exact congrArg _ ((State.takeJoin_joined run known joined _).trans (State.acceptJoin_eq joinedPos _ _))
  case notReady =>
    exact fun notOffered notJoined => congrArg _ (State.takeJoin_notReady run known notOffered notJoined _)

/-! ## REPORT -/

/-- R97: a REPORT is taken by the Report Handler after the arrival's own effects. -/
theorem exec_report (r : ProtocolFrame) (s : State) :
    exec (.report r) s = .next (reportRule r ((s.count .roomIn).presence r.src)) := rfl

theorem reportRule_malformed {r : ProtocolFrame} (malformed : parseReport r = none) (s : State) :
    reportRule r s = s.ignoreReport := by
  simp only [reportRule, malformed]

theorem reportRule_parsed {r : ProtocolFrame} {f : ReportFields} (parsed : parseReport r = some f) (s : State) :
    reportRule r s = s.takeReport r.src f := by
  simp only [reportRule, parsed]

theorem State.isJoined_iff (s : State) (d : DeskId) : s.isJoined d = true ↔ s.desks[d].night.state = .joined := beq_iff_eq

section
variable {s : State} {src : MacAddr} {f : ReportFields}

/-- R103: a REPORT in STANDBY. -/
theorem State.takeReport_noRun (absent : s.run.info? = none) : s.takeReport src f = s.ignoreReport := by
  simp only [State.takeReport, absent]

/-- R103: a REPORT from no known desk. -/
theorem State.takeReport_unknown (unknown : s.lookup src = none) : s.takeReport src f = s.ignoreReport := by
  unfold State.takeReport
  cases s.run.info? <;> simp only [unknown]

/-- R103: a REPORT with another run tag. -/
theorem State.takeReport_otherTag {info : RunInfo} (present : s.run.info? = some info) (other : f.runTag ≠ info.params.runTag) :
    s.takeReport src f = s.ignoreReport := by
  cases known : s.lookup src with
  | none => exact State.takeReport_unknown known
  | some d => simp only [State.takeReport, present, known, if_pos other]

variable {d : DeskId} (known : s.lookup src = some d)
include known

/-- R103, R109: a REPORT from a desk that is not COMPLETE, and not JOINED in a run in progress. -/
theorem State.takeReport_notJoined (notComplete : s.desks[d].night.state ≠ .complete)
    (notJoined : s.desks[d].night.state ≠ .joined ∨ s.run.inProgress = false) : s.takeReport src f = s.ignoreReport := by
  have idle : ¬ (s.isJoined d && s.run.inProgress) = true := by
    rw [Bool.and_eq_true, State.isJoined_iff]
    rintro ⟨joined, running⟩
    rcases notJoined with other | stopped
    · exact other joined
    · exact absurd (stopped.symm.trans running) Bool.false_ne_true
  cases present : s.run.info? with
  | none => exact State.takeReport_noRun present
  | some info => simp only [State.takeReport, present, known, if_neg idle, if_neg notComplete, ite_self]

/-- R109: a REPORT with the run's tag from a COMPLETE desk. -/
theorem State.takeReport_complete {info : RunInfo} (present : s.run.info? = some info) (tag : f.runTag = info.params.runTag)
    (complete : s.desks[d].night.state = .complete) :
    s.takeReport src f = (s.count .reportsTaken).sendFinish info d false info.params.afterAction := by
  have notJoined : s.isJoined d = false := by rw [State.isJoined, complete]; rfl
  simp only [State.takeReport, present, known, tag, notJoined, complete, Bool.false_and, Bool.false_eq_true, ne_eq,
    not_true_eq_false, if_true, if_false]

end

/-- Settles O47: each reason to ignore a REPORT, and the COMPLETE desk, is one equation of `State.takeReport` on the state after the
arrival's own effects. -/
theorem reportIgnoredOrFinishedAgain : Obligations.ReportIgnoredOrFinishedAgain := by
  refine ⟨parseReport_eq_some_iff, ?taken⟩
  intro r s s1
  have run_eq : s1.run = s.run := State.presence_run _ _
  rw [exec_report, ← run_eq]
  refine ⟨fun reason => congrArg _ ?ignored, fun f info d parsed present tag known complete => congrArg _ ?finished⟩
  case ignored =>
    cases parsed : parseReport r with
    | none => exact reportRule_malformed parsed s1
    | some f =>
      rw [reportRule_parsed parsed]
      rcases reason with malformed | standby | unknown | ⟨g, info, parsed', present, other⟩ | ⟨d, known, notComplete, notJoined⟩
      · exact absurd (malformed.symm.trans parsed) (Option.some_ne_none f).symm
      · exact State.takeReport_noRun (congrArg Run.info? standby)
      · exact State.takeReport_unknown unknown
      · obtain rfl : g = f := Option.some.inj (parsed'.symm.trans parsed)
        exact State.takeReport_otherTag present other
      · exact State.takeReport_notJoined known notComplete notJoined
  case finished => exact (reportRule_parsed parsed s1).trans (State.takeReport_complete known present tag complete)

/-! ## WANTED READ and WANTED TAKE -/

/-- R113: the list in its form holds at most 32 ranges. -/
theorem State.WantedGood.length_le {s : State} (good : s.WantedGood) : s.wanted.length ≤ 32 := by
  unfold State.WantedGood at good
  split at good
  · obtain ⟨-, atMost⟩ := good
    exact atMost
  · rw [good]; exact Nat.zero_le _

/-- R117: the list is empty in STANDBY. -/
theorem State.WantedGood.standby {s : State} (good : s.WantedGood) (run : s.run = .standby) : s.wanted = [] := by
  simpa only [State.WantedGood, run, Run.info?] using good

/-- Settles O32: an admitted request of either kind reaches its rule, which answers with `wantedBytes`. -/
theorem wantedReadAndTake : Obligations.WantedReadAndTake := by
  intro r s body
  refine ⟨fun admits => ?read, fun admits => ?take, fun good => ⟨good.length_le, fun standby => ?empty⟩⟩
  case read => exact exec_admitted admits (Nat.zero_le r.bodyLen)
  case take => exact exec_admitted admits (Nat.zero_le r.bodyLen)
  case empty =>
    have none_wanted : s.wanted = [] := good.standby standby
    simp only [body, none_wanted]
    rfl

end Sys2Proof.Machine
end

section
/-! SUPPORT. The Night Run's requests (07_the_night_run.md): which check a RUN START fails (R120), in which run states the other requests
of Run Control are refused (R118, R126, R132), what an ENQUEUE queues (R126), what a REPORT RELEASE leaves (R132), and the
statements O19, O21 and O23. -/

namespace Sys2Proof.Machine

/-! ## The checks of RUN START -/

theorem AfterAction.ofCode_isNone : ∀ n : Nat, (AfterAction.ofCode? n).isNone = decide (2 < n)
  | 0 => rfl
  | 1 => rfl
  | 2 => rfl
  | n + 3 => by simp [AfterAction.ofCode?]

/-- R120, check 1: the strings lie beyond the fixed part, so the declared length decides alone. -/
theorem runStartLength_short_iff (b : List Byte) :
    (b.length < 51 ∨ b.length < runStartLength b) ↔ b.length < 51 + (byteAt b 49).toNat + (byteAt b 50).toNat := by
  simp only [runStartLength]; omega

/-- R120, check 8: no enrolled used record. -/
theorem State.noDesk_enrols (s : State) :
    (!s.desks.toList.any fun d => d.config.enrols) = s.desks.toList.all fun d => !d.config.enrolled || d.config.address == 0 := by
  rw [List.not_any_eq_all_not]
  refine congrArg (s.desks.toList.all ·) (funext fun d => ?_)
  rw [DeskConfig.enrols, Bool.not_and, bne, Bool.not_not]

/-- R120: the eight checks in order, on the bytes of the body and the code of the run state. -/
theorem runStartFault_eq (s : State) (b : List Byte) :
    runStartFault s b =
      if b.length < 51 + (byteAt b 49).toNat + (byteAt b 50).toNat then some .badFormat
      else if s.run.code = 3 then some .reportHeld
      else if s.run.inProgress then some .wrongState
      else if beNat b 2 3 = 0 then some .badFormat
      else if isGroup (macAt b 9) = false ∨ macAt b 9 = broadcastAddr then some .badFormat
      else if 64 < (byteAt b 49).toNat ∨ 16 < (byteAt b 50).toNat then some .badFormat
      else if 2 < (byteAt b 31).toNat ∨ (byteAt b 32).getLsbD 7 = true then some .badFormat
      else if s.desks.toList.all (fun d => !d.config.enrolled || d.config.address == 0) then some .noDesks
      else none := by
  simp only [runStartFault, runStartLength_short_iff, parseRunParams, AfterAction.ofCode_isNone, State.noDesk_enrols,
    Bool.or_eq_true, Bool.not_eq_true', beq_iff_eq, decide_eq_true_eq]
  cases s.run with
  | standby => rfl
  | running paused => cases paused <;> rfl
  | closed => rfl

/-- R120: a RUN START that fails a check. -/
theorem runStartRule_refused {r : ProtocolFrame} {s : State} {status : Status} (fault : runStartFault s (bodyOf r) = some status) :
    runStartRule r s = s.refuse r .runStart status := by
  simp only [runStartRule, fault]

/-! ## Requests in a run state in which they are not taken -/

theorem Run.not_inProgress_iff (run : Run) : run.inProgress = false ↔ run.code ≠ 1 ∧ run.code ≠ 2 := by
  cases run with
  | standby | closed => simp [Run.inProgress, Run.code]
  | running paused => cases paused <;> simp [Run.inProgress, Run.code]

section
variable {s : State} (r : ProtocolFrame)

/-- R118, R124: RUN PAUSE outside ACTIVE. -/
theorem runPauseRule_wrongState (run : s.run.code ≠ 1) : runPauseRule r s = s.refuse r .runPause .wrongState := by
  unfold runPauseRule
  split
  · next active => rw [active] at run; exact absurd rfl run
  · rfl

/-- R118, R125: RUN RESUME outside PAUSED. -/
theorem runResumeRule_wrongState (run : s.run.code ≠ 2) : runResumeRule r s = s.refuse r .runResume .wrongState := by
  unfold runResumeRule
  split
  · next paused => rw [paused] at run; exact absurd rfl run
  · rfl

/-- R118, R130: RUN STOP outside ACTIVE and PAUSED. -/
theorem runStopRule_wrongState (run : s.run.inProgress = false) : runStopRule r s = s.refuse r .runStop .wrongState := by
  unfold runStopRule
  split
  · next inProgress => rw [inProgress] at run; exact absurd run Bool.noConfusion
  · rfl

/-- R132: REPORT RELEASE outside CLOSED. -/
theorem reportReleaseRule_wrongState (run : s.run.code ≠ 3) :
    reportReleaseRule r s = s.refuse r .reportRelease .wrongState := by
  unfold reportReleaseRule
  split
  · next closed => rw [closed] at run; exact absurd rfl run
  · rfl

end

/-! ## ENQUEUE -/

section
variable {r : ProtocolFrame} {s : State} (long : 2 ≤ (bodyOf r).length)
include long

/-- R126: ENQUEUE outside ACTIVE and PAUSED. -/
theorem enqueueRule_wrongState (run : s.run.inProgress = false) : enqueueRule r s = s.refuse r .enqueue .wrongState := by
  simp only [enqueueRule, Nat.not_lt.2 long, run, Bool.not_false, if_true, if_false]

variable (run : s.run.inProgress = true)
include run

/-- R126: an id that is not one. -/
theorem enqueueRule_badIndex (above : 127 < (byteAt (bodyOf r) 0).toNat ∨ 127 < (byteAt (bodyOf r) 1).toNat) :
    enqueueRule r s = s.refuse r .enqueue .badIndex := by
  simp only [enqueueRule, Nat.not_lt.2 long, run, above, Bool.not_true, Bool.false_eq_true, if_true, if_false]

/-- R126: a first id above the last. -/
theorem enqueueRule_badFormat (first : (byteAt (bodyOf r) 0).toNat ≤ 127)
    (empty : (byteAt (bodyOf r) 1).toNat < (byteAt (bodyOf r) 0).toNat) :
    enqueueRule r s = s.refuse r .enqueue .badFormat := by
  have last : (byteAt (bodyOf r) 1).toNat ≤ 127 := by omega
  simp only [enqueueRule, Nat.not_lt.2 long, run, Nat.not_lt.2 first, Nat.not_lt.2 last, empty, or_self, Bool.not_true,
    Bool.false_eq_true, if_true, if_false]

/-- R126: a range of desk ids. -/
theorem enqueueRule_taken (order : (byteAt (bodyOf r) 0).toNat ≤ (byteAt (bodyOf r) 1).toNat)
    (last : (byteAt (bodyOf r) 1).toNat ≤ 127) :
    let ds := s.enqueueDesks (byteAt (bodyOf r) 0).toNat (byteAt (bodyOf r) 1).toNat
    enqueueRule r s =
      (if ds = [] then s else State.scanAndSettle s (s.queueDesks ds)).answer r .enqueue .ok (beBytes 1 ds.length) := by
  have first : (byteAt (bodyOf r) 0).toNat ≤ 127 := order.trans last
  simp only [enqueueRule, Nat.not_lt.2 long, run, Nat.not_lt.2 first, Nat.not_lt.2 last, Nat.not_lt.2 order, or_self,
    Bool.not_true, Bool.false_eq_true, List.isEmpty_iff, if_false]

end

/-- R122, R126: the desks queued are those of the ids that a test selects. -/
theorem State.queueDesks_filter (s : State) (taken : DeskId → Bool) :
    s.queueDesks ((List.finRange 128).filter taken) = { s with
      desks := Vector.ofFn fun d => if taken d then { s.desks[d] with night := { Night.idle with state := .queued } } else s.desks[d]
      wakeQueue := s.wakeQueue ++ (List.finRange 128).filter taken } := by
  rw [State.queueDesks_eq]
  simp only [List.contains_eq_mem, List.mem_filter, List.mem_finRange, true_and, decide_eq_true_eq]

/-! ## REPORT RELEASE -/

/-- R132: what a REPORT RELEASE leaves. -/
theorem State.releaseReport_eq (s : State) :
    s.releaseReport = { s with
      desks := Vector.ofFn fun d => if s.desks[d].night.state = .idle then s.desks[d] else { s.desks[d] with night := Night.idle }
      circuits := Vector.ofFn fun c => { s.circuits[c] with load := 0, gapTimer := none, decayTimer := none }
      wanted := [], controlQueue := [], noticeEnable := 0, run := .standby } := by
  have desk (d : DeskId) :
      ({ s.desks[d] with night := if s.desks[d].night.state = .idle then s.desks[d].night else Night.idle } : Desk) =
        if s.desks[d].night.state = .idle then s.desks[d] else { s.desks[d] with night := Night.idle } := by
    split <;> rfl
  simp only [State.releaseReport, State.mapNight, desk]

/-- R132: REPORT RELEASE in CLOSED. -/
theorem reportReleaseRule_closed {s : State} {info : RunInfo} {cause : CloseCause} {left : Nat} (run : s.run = .closed info cause left)
    (r : ProtocolFrame) : reportReleaseRule r s = s.releaseReport.answer r .reportRelease .ok [] := by
  simp only [reportReleaseRule, run]

/-! ## The statements -/

/-- Settles O23: the two outcomes of R132 are the two equations of the request's rule, after the arrival is counted. -/
theorem reportReleaseClears : Obligations.ReportReleaseClears := by
  intro r s admits
  have taken : exec (.reportRelease r) s = .next (reportReleaseRule r (s.count .upstreamIn)) :=
    exec_admitted admits (Nat.zero_le r.bodyLen)
  refine ⟨fun other => taken.trans (congrArg _ (reportReleaseRule_wrongState r (s := s.count .upstreamIn) other)), ?closed⟩
  intro info cause left run
  rw [taken, reportReleaseRule_closed (s := s.count .upstreamIn) run, State.releaseReport_eq]
  rfl

/-- Settles O19: the checks of R120 are `runStartFault_eq`, a body too short for its kind failing the first; every other request is one
equation of its rule. -/
theorem runRequestsRefused : Obligations.RunRequestsRefused := by
  refine ⟨?runStart, ?states⟩
  case runStart =>
    intro r s status admits b fails
    by_cases long : 51 ≤ r.bodyLen
    · have fault : runStartFault (s.count .upstreamIn) b = some status := (runStartFault_eq _ b).trans fails
      exact (exec_admitted admits long).trans (congrArg _ (runStartRule_refused fault))
    · have short : b.length < 51 + (byteAt b 49).toNat + (byteAt b 50).toNat := by
        have body : b.length = r.bodyLen := admits.body_length
        omega
      obtain rfl : Status.badFormat = status := Option.some.inj ((if_pos short).symm.trans fails)
      exact exec_admitted_short admits (Nat.lt_of_not_le long)
  case states =>
    intro k r s admits long refused
    refine (exec_admitted admits long).trans (congrArg _ ?_)
    rcases refused with ⟨rfl, run⟩ | ⟨rfl, run⟩ | ⟨rfl | rfl, run⟩ | ⟨rfl, run⟩ | ⟨rfl, run⟩
    · exact runPauseRule_wrongState r (s := s.count .upstreamIn) run
    · exact runResumeRule_wrongState r (s := s.count .upstreamIn) run
    · exact runStopRule_wrongState r (s := s.count .upstreamIn) ((Run.not_inProgress_iff s.run).2 run)
    · exact enqueueRule_wrongState (s := s.count .upstreamIn) (admits.body_length ▸ long) ((Run.not_inProgress_iff s.run).2 run)
    · exact reportReleaseRule_wrongState r (s := s.count .upstreamIn) run
    · exact ringFlushRule_wrongState (s := s.count .upstreamIn) run r

/-- Settles O21: each outcome of R126 is one equation of the request's rule, after the arrival is counted. -/
theorem enqueueQueuesDesks : Obligations.EnqueueQueuesDesks := by
  intro r s admits lo hi taken ds answer s1 s2 refused
  have body (long : 2 ≤ r.bodyLen) : 2 ≤ (bodyOf r).length := admits.body_length ▸ long
  have ruled (long : 2 ≤ r.bodyLen) : exec (.enqueue r) s = .next (enqueueRule r s1) := exec_admitted admits long
  have desks_eq : s1.enqueueDesks lo hi = ds :=
    congrArg (List.filter · _) (funext fun d => (Bool.and_assoc _ _ _).symm)
  have queue_eq : s1.queueDesks ds = s2 := s1.queueDesks_filter taken
  refine ⟨exec_admitted_short admits, fun long run => ?wrongState, fun long run => ?inProgress⟩
  case wrongState => exact (ruled long).trans (congrArg _ (enqueueRule_wrongState (s := s1) (body long) run))
  case inProgress =>
    have queued (order : lo ≤ hi) (last : hi ≤ 127) : exec (.enqueue r) s =
        answer (if ds = [] then s1 else State.scanAndSettle s1 s2) := by
      rw [ruled long, enqueueRule_taken (s := s1) (body long) run order last, desks_eq, queue_eq]
      rfl
    refine ⟨fun above => ?_, fun first empty => ?_, fun order last nothing => ?_, fun order last something => ?_⟩
    · exact (ruled long).trans (congrArg _ (enqueueRule_badIndex (s := s1) (body long) run above))
    · exact (ruled long).trans (congrArg _ (enqueueRule_badFormat (s := s1) (body long) run first empty))
    · rw [queued order last, if_pos nothing]
    · rw [queued order last, if_neg something]

end Sys2Proof.Machine
end

section
/-! SUPPORT. The Match Table (08_the_frame_path.md): when an entry matches a frame (R139), what MATCH WRITE, MATCH LIVE and MATCH READ do
on each outcome of their checks (R141, R142), and the statements O6 and O12. -/

namespace Sys2Proof.Machine

/-! ## When an entry matches a frame -/

/-- R139: an entry tests the frames of the port it names, or of both. -/
theorem MatchPort.covers_iff (m : MatchPort) (p : Port) :
    m.covers p = true ↔ m = .either ∨ (m = .room ∧ p = .room) ∨ (m = .upstream ∧ p = .upstream) := by
  cases m <;> cases p <;> decide

/-- R139: within the frame the masked bytes are compared; at or beyond its end only a zero mask byte matches. -/
theorem byteMatches_iff (frame : List Byte) (position : Nat) (key mask : Byte) :
    byteMatches frame position key mask = true ↔
      (position < frame.length → byteAt frame position &&& mask = key &&& mask) ∧ (frame.length ≤ position → mask = 0) := by
  by_cases within : position < frame.length
  · simp [byteMatches, within, Nat.not_le.2 within]
  · simp [byteMatches, within, Nat.le_of_not_lt within]

theorem byteMatches_zero_mask (frame : List Byte) (position : Nat) (key : Byte) : byteMatches frame position key 0 = true :=
  (byteMatches_iff frame position key 0).2 ⟨fun _ => BitVec.and_zero.trans BitVec.and_zero.symm, fun _ => rfl⟩

/-- R139: the port test and the eight byte tests. -/
theorem MatchEntry.covers_iff (e : MatchEntry) (p : Port) (frame : List Byte) :
    e.covers p frame = true ↔
      e.port.covers p = true ∧ ∀ i : Fin 8, byteMatches frame (e.offset + i.val) e.key[i] e.mask[i] = true := by
  simp only [MatchEntry.covers, Bool.and_eq_true, List.all_eq_true, List.mem_finRange, forall_const]

/-- Settles O6: `MatchEntry.covers_iff` with each of its tests read as R139 words it; a zero mask byte passes every byte test. -/
theorem entryMatchesFrame : Obligations.EntryMatchesFrame := by
  intro e p frame
  refine ⟨?whenMatches, fun zeroMask port => ?zeroMaskMatches⟩
  case whenMatches => simp only [MatchEntry.covers_iff, MatchPort.covers_iff, byteMatches_iff]
  case zeroMaskMatches =>
    refine (e.covers_iff p frame).2 ⟨(e.port.covers_iff p).2 port, fun i => ?_⟩
    rw [zeroMask i]
    exact byteMatches_zero_mask frame _ _

/-! ## The entry a MATCH WRITE carries -/

theorem MatchPort.ofCode_code (port : MatchPort) : MatchPort.ofCode? port.code = some port := by
  cases port <;> rfl

theorem MatchPort.ofCode_none : ∀ {n : Nat}, 2 < n → MatchPort.ofCode? n = none
  | _ + 3, _ => rfl

theorem MatchAction.ofCode_code (action : MatchAction) : MatchAction.ofCode? action.code = some action := by
  cases action <;> rfl

theorem MatchAction.ofCode_none : ∀ {n : Nat}, 2 < n → MatchAction.ofCode? n = none
  | _ + 3, _ => rfl

theorem boolOfCode_none : ∀ {n : Nat}, 1 < n → boolOfCode? n = none
  | _ + 2, _ => rfl

/-- "No or yes" read from a byte. -/
theorem boolOfCode_byte {b : Byte} (h : b.toNat ≤ 1) : boolOfCode? b.toNat = some (b == 1) := by
  rw [boolOfCode_of_lt (Nat.lt_succ_of_le h)]
  exact congrArg some (Bool.eq_iff_iff.2 (by simp [← BitVec.toNat_inj]))

/-- R141, check 4: a value that names nothing, or an offset above 120. -/
theorem parseMatchEntry_none {l : List Byte}
    (bad : 2 < (byteAt l 1).toNat ∨ 120 < (byteAt l 2).toNat ∨ 1 < (byteAt l 19).toNat ∨ 2 < (byteAt l 20).toNat) :
    parseMatchEntry l = none := by
  rcases bad with port | offset | night | action
  · simp [parseMatchEntry, MatchPort.ofCode_none port]
  · simp [parseMatchEntry, Nat.not_le.2 offset]
  · simp [parseMatchEntry, boolOfCode_none night]
  · simp [parseMatchEntry, MatchAction.ofCode_none action]

/-- R141: the entry of a body that passes check 4. -/
theorem parseMatchEntry_some {l : List Byte} {port : MatchPort} {action : MatchAction}
    (hport : (byteAt l 1).toNat = port.code) (offset : (byteAt l 2).toNat ≤ 120) (night : (byteAt l 19).toNat ≤ 1)
    (haction : (byteAt l 20).toNat = action.code) :
    parseMatchEntry l =
      some { port := port, offset := (byteAt l 2).toNat, key := Vector.ofFn fun i => byteAt l (3 + i.val),
             mask := Vector.ofFn fun i => byteAt l (11 + i.val), nightOnly := byteAt l 19 == 1, action := action, hits := 0 } := by
  simp [parseMatchEntry, hport, haction, MatchPort.ofCode_code, MatchAction.ofCode_code, boolOfCode_byte night, offset]

/-! ## MATCH WRITE -/

section
variable {r : ProtocolFrame} {s : State} (long : 21 ≤ (bodyOf r).length)
include long

/-- R141, check 2: an index above 31. -/
theorem matchWriteRule_badIndex (above : 32 ≤ (byteAt (bodyOf r) 0).toNat) :
    matchWriteRule r s = s.refuse r .matchWrite .badIndex := by
  simp only [matchWriteRule, Nat.not_lt.2 long, entryOf_none above, if_false]

variable {i : Fin 32} (index : i.val = (byteAt (bodyOf r) 0).toNat)
include index

/-- R141, check 3: a live entry is not written. -/
theorem matchWriteRule_liveEntry (live : i.val < s.liveCount) : matchWriteRule r s = s.refuse r .matchWrite .liveEntry := by
  simp only [matchWriteRule, Nat.not_lt.2 long, entryOf_val index, live, if_false, if_true]

variable (notLive : s.liveCount ≤ i.val)
include notLive

/-- R141, check 4: a body that carries no entry. -/
theorem matchWriteRule_badFormat (parsed : parseMatchEntry (bodyOf r) = none) :
    matchWriteRule r s = s.refuse r .matchWrite .badFormat := by
  simp only [matchWriteRule, Nat.not_lt.2 long, entryOf_val index, Nat.not_lt.2 notLive, parsed, if_false]

/-- R141: a MATCH WRITE that passes every check. -/
theorem matchWriteRule_written {e : MatchEntry} (parsed : parseMatchEntry (bodyOf r) = some e) :
    matchWriteRule r s =
      State.answer { s with matchTable := s.matchTable.set i e } r .matchWrite .ok (beBytes 1 i.val ++ e.bytes) := by
  simp only [matchWriteRule, Nat.not_lt.2 long, entryOf_val index, Nat.not_lt.2 notLive, parsed, if_false]

end

/-! ## MATCH LIVE and MATCH READ -/

section
variable {r : ProtocolFrame} {s : State} (long : 1 ≤ (bodyOf r).length)
include long

/-- R142: a live count above 32. -/
theorem matchLiveRule_badIndex (above : 32 < (byteAt (bodyOf r) 0).toNat) :
    matchLiveRule r s = s.refuse r .matchLive .badIndex :=
  (if_neg (Nat.not_lt.2 long)).trans (if_pos above)

/-- R142: a live count from 0 to 32. -/
theorem matchLiveRule_taken (count : (byteAt (bodyOf r) 0).toNat ≤ 32) :
    matchLiveRule r s = State.answer { s with liveCount := (byteAt (bodyOf r) 0).toNat } r .matchLive .ok
      (beBytes 1 (byteAt (bodyOf r) 0).toNat) :=
  (if_neg (Nat.not_lt.2 long)).trans (if_neg (Nat.not_lt.2 count))

/-- R142: an index above 31. -/
theorem matchReadRule_badIndex (above : 32 ≤ (byteAt (bodyOf r) 0).toNat) :
    matchReadRule r s = s.refuse r .matchRead .badIndex := by
  simp only [matchReadRule, Nat.not_lt.2 long, entryOf_none above, if_false]

/-- R142: a MATCH READ of an entry. -/
theorem matchReadRule_reports {i : Fin 32} (index : i.val = (byteAt (bodyOf r) 0).toNat) :
    matchReadRule r s = s.answer r .matchRead .ok
      (beBytes 1 i.val ++ (s.matchTable[i]).bytes ++ beBytes 1 s.liveCount ++ boolByte (decide (i.val < s.liveCount))) := by
  simp only [matchReadRule, Nat.not_lt.2 long, entryOf_val index, if_false]

end

/-- Settles O12: each outcome of the checks of R141 and R142 is one equation of the request's rule, after the arrival is counted. -/
theorem matchTableRequests : Obligations.MatchTableRequests := by
  refine ⟨?write, ?liveAndRead⟩
  case write =>
    intro r s admits b id refused
    refine ⟨exec_admitted_short admits, fun long => ?checks⟩
    have body : 21 ≤ (bodyOf r).length := admits.body_length ▸ long
    have taken : exec (.matchWrite r) s = .next (matchWriteRule r (s.count .upstreamIn)) := exec_admitted admits long
    rw [taken]
    refine ⟨fun above => ?badIndex, fun index live => ?liveEntry, fun index notLive bad => ?badFormat,
      fun i port action index notLive hport offset night haction => ?written⟩
    case badIndex => exact congrArg _ (matchWriteRule_badIndex body above)
    case liveEntry =>
      exact congrArg _ (matchWriteRule_liveEntry (s := s.count .upstreamIn) (i := ⟨id, index⟩) body rfl live)
    case badFormat =>
      exact congrArg _ (matchWriteRule_badFormat (s := s.count .upstreamIn) (i := ⟨id, index⟩) body rfl notLive
        (parseMatchEntry_none bad))
    case written =>
      intro e
      have parsed : parseMatchEntry b = some e := parseMatchEntry_some hport offset night haction
      rw [← index] at notLive ⊢
      exact congrArg _ (matchWriteRule_written (s := s.count .upstreamIn) body index notLive parsed)
  case liveAndRead =>
    intro r s long n
    refine ⟨fun admits => ?live, fun admits => ?read⟩
    case live =>
      have body : 1 ≤ (bodyOf r).length := admits.body_length ▸ long
      have taken : exec (.matchLive r) s = .next (matchLiveRule r (s.count .upstreamIn)) := exec_admitted admits long
      rw [taken]
      exact ⟨fun above => congrArg _ (matchLiveRule_badIndex body above),
        fun count => congrArg _ (matchLiveRule_taken body count)⟩
    case read =>
      have body : 1 ≤ (bodyOf r).length := admits.body_length ▸ long
      have taken : exec (.matchRead r) s = .next (matchReadRule r (s.count .upstreamIn)) := exec_admitted admits long
      rw [taken]
      refine ⟨fun above => congrArg _ (matchReadRule_badIndex body above), fun i index => ?reports⟩
      rw [← index]
      exact congrArg _ (matchReadRule_reports (s := s.count .upstreamIn) body index)

end Sys2Proof.Machine
end

section
/-! SUPPORT. The Management Unit's own requests and the slot map (08_the_frame_path.md, 09_management_requests_and_notices.md): IDENTIFY
and the station address under the resets (R154), SLOTMAP WRITE and SLOTMAP READ (R146), STATION WRITE (R151), and the statements O8
and O13. -/

namespace Sys2Proof.Machine

/-! ## The station address under the resets -/

/-- R149, R150, R152: a request is dropped, refused as badly formed, or handed to its kind's rule. -/
theorem takeRequest_cases (k : ReqKind) (r : ProtocolFrame) (s : State) :
    takeRequest k.code r s = s.count .managementDrops ∨
    takeRequest k.code r s = s.putReply (.response r.src k.code r.tag .badFormat []) ∨
    takeRequest k.code r s = requestRule k r s := by
  by_cases dropped : isGroup r.src = true ∨ (r.broadcast = true ∧ k ≠ .identify) ∨ (s.stations ≠ [] ∧ r.src ∉ s.stations)
  · exact .inl (takeRequest_dropped k r s dropped)
  simp only [not_or, not_and_or, Bool.not_eq_true, not_not] at dropped
  obtain ⟨source, destination, station⟩ := dropped
  by_cases refused : r.version ≠ 1 ∨ r.rest.length < r.bodyLen ∨ r.bodyLen < k.minBody
  · exact .inr (.inl (takeRequest_refused k r s source destination station refused))
  simp only [not_or, not_not, Nat.not_lt] at refused
  obtain ⟨version, fits, long⟩ := refused
  exact .inr (.inr (takeRequest_taken k r s source destination station version fits long))

/-- A request whose rule keeps the station address keeps it on every outcome. -/
theorem requestEvent_station {k : ReqKind} {r : ProtocolFrame} (kept : ∀ s, (requestRule k r s).station = s.station) (s : State) :
    (requestEvent k r s).station = s.station := by
  have arrived : (s.acceptFrame .upstream r.src).station = s.station := State.count_station s .upstreamIn
  rw [requestEvent]
  rcases takeRequest_cases k r (s.acceptFrame .upstream r.src) with taken | taken | taken <;> rw [taken]
  · rw [State.count_station, arrived]
  · rw [State.putReply_station, arrived]
  · rw [kept, arrived]

@[simp] theorem State.answer_station (s : State) (r : ProtocolFrame) (k : ReqKind) (status : Status) (body : List Byte) :
    (s.answer r k status body).station = s.station := by
  rw [State.answer_eq, State.putReply_station]

@[simp] theorem State.engineReset_station (s : State) : s.engineReset.station = s.station := by
  simp only [State.engineReset, State.clearRing_station, State.mapNight_station]

@[simp] theorem State.fullReset_station (s : State) : s.fullReset.station = s.station := rfl

@[simp] theorem powerOnEvent_station (s : State) : (powerOnEvent s).station = s.station := rfl

/-- R154: no reset changes the station address. -/
theorem exec_reset_station {c : Instr} {r : ProtocolFrame} {s t : State}
    (reset : c = .engineReset r ∨ c = .fullReset r ∨ c = .powerOn) (next : exec c s = .next t) : t.station = s.station := by
  rcases reset with rfl | rfl | rfl
  · obtain rfl : requestEvent .engineReset r s = t := Host.Outcome.next.inj next
    exact requestEvent_station (k := .engineReset) (r := r) (fun s => (State.answer_station ..).trans s.engineReset_station) s
  · obtain rfl : requestEvent .fullReset r s = t := Host.Outcome.next.inj next
    exact requestEvent_station (k := .fullReset) (r := r) (fun s => (State.answer_station ..).trans s.fullReset_station) s
  · obtain rfl : powerOnEvent s = t := Host.Outcome.next.inj next
    exact powerOnEvent_station s

/-- R154: the identity record, byte by byte around the station address. -/
theorem identityBytes_eq (station : MacAddr) :
    identityBytes station = [0x55, 0xE3, 0x01, 0x28, 0x41] ++ macBytes station ++ [0, 128, 0, 64, 0x20, 0, 0, 32, 0, 8, 0, 32, 0, 16] := by
  simp only [identityBytes, List.append_assoc]
  rfl

/-- Settles O8: IDENTIFY's rule answers with `identityBytes`, whose one variable part is the station address that
`exec_reset_station` keeps. -/
theorem identifyReturnsIdentity : Obligations.IdentifyReturnsIdentity := by
  intro r s admits
  refine ⟨?_, fun c t reset next => exec_reset_station reset next⟩
  have taken : exec (.identify r) s = .next (identifyRule r (s.count .upstreamIn)) :=
    exec_admitted admits (Nat.zero_le r.bodyLen)
  rw [taken, identifyRule, State.count_station, identityBytes_eq]
  rfl

/-! ## The map a SLOTMAP WRITE carries -/

theorem Source.ofCode_code (source : Source) : Source.ofCode? source.code = some source := by
  cases source <;> rfl

theorem Source.ofCode_none : ∀ {n : Nat}, 2 < n → Source.ofCode? n = none
  | _ + 3, _ => rfl

/-- R146: an entry that names no source. -/
theorem parseSlotMap_none {l : List Byte} {i : Fin 16} (bad : 2 < (byteAt l i.val).toNat) : parseSlotMap l = none := by
  refine if_neg fun named => ?_
  have entry := List.all_eq_true.1 named i.val (List.mem_range.2 i.isLt)
  rw [Source.ofCode_none bad] at entry
  exact Bool.noConfusion entry

section
variable {l : List Byte} {m : Vector Source 16} (codes : ∀ i : Fin 16, (byteAt l i.val).toNat = (m[i]).code)
include codes

/-- R146: the map of a body whose 16 entries are the codes of its sources. -/
theorem parseSlotMap_some : parseSlotMap l = some m := by
  have entry (i : Fin 16) : Source.ofCode? (byteAt l i.val).toNat = some m[i] := by rw [codes i, Source.ofCode_code]
  have named : ((List.range 16).all fun i => (Source.ofCode? (byteAt l i).toNat).isSome) = true :=
    List.all_eq_true.2 fun i hi => by rw [entry ⟨i, List.mem_range.1 hi⟩]; rfl
  refine (if_pos named).trans (congrArg some (Vector.ext fun i hi => ?_))
  rw [Vector.getElem_ofFn, entry ⟨i, hi⟩]
  rfl

/-- R146: a map taken is answered with the bytes it came in. -/
theorem slotMapBytes_eq_take (long : 16 ≤ l.length) : slotMapBytes m = l.take 16 := by
  refine List.ext_getElem (by simp [slotMapBytes, long]) fun i hi hi' => ?_
  have entry : i < 16 := by simpa [slotMapBytes] using hi
  have code : (byteAt l i).toNat = (m[i]).code := codes ⟨i, entry⟩
  have byte : byteAt l i = l[i] := List.getD_eq_getElem l 0 (by omega)
  simp only [slotMapBytes, List.getElem_map, Vector.getElem_toList, List.getElem_take, ← code, byte, BitVec.ofNat_toNat,
    BitVec.setWidth_eq]

end

/-! ## SLOTMAP WRITE -/

section
variable {r : ProtocolFrame} {s : State} (long : 16 ≤ (bodyOf r).length)
include long

/-- R146: SLOTMAP WRITE outside STANDBY. -/
theorem slotmapWriteRule_wrongState (run : s.run ≠ .standby) :
    slotmapWriteRule r s = s.refuse r .slotmapWrite .wrongState :=
  (if_neg (Nat.not_lt.2 long)).trans (if_pos run)

variable (run : s.run = .standby)
include run

/-- R146: a SLOTMAP WRITE whose body is no map. -/
theorem slotmapWriteRule_badFormat (parsed : parseSlotMap (bodyOf r) = none) :
    slotmapWriteRule r s = s.refuse r .slotmapWrite .badFormat := by
  simp only [slotmapWriteRule, Nat.not_lt.2 long, run, parsed, ne_eq, not_true_eq_false, if_false]

/-- R146: a SLOTMAP WRITE that passes every check. -/
theorem slotmapWriteRule_written {m : Vector Source 16} (parsed : parseSlotMap (bodyOf r) = some m) :
    slotmapWriteRule r s =
      State.answer { s with slotMap := m, egressPos := 0 } r .slotmapWrite .ok (slotMapBytes m) := by
  simp only [slotmapWriteRule, Nat.not_lt.2 long, run, parsed, ne_eq, not_true_eq_false, if_false]

end

/-! ## STATION WRITE -/

/-- R151, checks 3 and 4, as the statement words them. -/
theorem stationsGood_iff {station : MacAddr} {l : List MacAddr} :
    stationsGood station l = true ↔ (∀ a ∈ l, a ≠ 0 ∧ isGroup a = false ∧ a ≠ station) ∧ l.Nodup := by
  simp only [stationsGood, Bool.and_eq_true, List.all_eq_true, bne_iff_ne, Bool.not_eq_true', decide_eq_true_eq, and_assoc]

/-- R151: a list that holds an address it may not, or one twice. -/
theorem stationsGood_eq_false {station : MacAddr} {l : List MacAddr}
    (bad : (∃ a ∈ l, a = 0 ∨ isGroup a = true ∨ a = station) ∨ ¬ l.Nodup) : stationsGood station l = false := by
  refine Bool.eq_false_iff.2 fun good => ?_
  obtain ⟨allowed, distinct⟩ := stationsGood_iff.1 good
  rcases bad with ⟨a, mem, bad⟩ | twice
  · obtain ⟨nonzero, single, other⟩ := allowed a mem
    rcases bad with zero | group | own
    · exact nonzero zero
    · exact Bool.false_ne_true (single.symm.trans group)
    · exact other own
  · exact twice distinct

section
variable {r : ProtocolFrame} {s : State}

/-- R151: a body too short for its count, a count above 4, or a list that may not be the Station List. -/
theorem stationWriteRule_badFormat
    (bad : (bodyOf r).length < 1 + 6 * (byteAt (bodyOf r) 0).toNat ∨ 4 < (byteAt (bodyOf r) 0).toNat ∨
      stationsGood s.station (parseStations (byteAt (bodyOf r) 0).toNat (bodyOf r)) = false) :
    stationWriteRule r s = s.refuse r .stationWrite .badFormat := by
  unfold stationWriteRule
  dsimp only
  split
  · rfl
  next whole =>
    split
    · rfl
    next few =>
      refine if_pos ?_
      rcases bad with short | many | bad
      · exact absurd (.inr short) whole
      · exact absurd many few
      · rw [bad]; rfl

/-- R151: a STATION WRITE that passes every check. -/
theorem stationWriteRule_written (long : 1 + 6 * (byteAt (bodyOf r) 0).toNat ≤ (bodyOf r).length)
    (few : (byteAt (bodyOf r) 0).toNat ≤ 4)
    (good : stationsGood s.station (parseStations (byteAt (bodyOf r) 0).toNat (bodyOf r)) = true) :
    stationWriteRule r s =
      State.answer { s with stations := parseStations (byteAt (bodyOf r) 0).toNat (bodyOf r) } r .stationWrite .ok
        (beBytes 1 (byteAt (bodyOf r) 0).toNat
          ++ (parseStations (byteAt (bodyOf r) 0).toNat (bodyOf r)).flatMap macBytes) := by
  have whole : ¬ ((bodyOf r).length < 1 ∨ (bodyOf r).length < 1 + 6 * (byteAt (bodyOf r) 0).toNat) := by omega
  simp only [stationWriteRule, whole, Nat.not_lt.2 few, good, Bool.not_true, Bool.false_eq_true, if_false]

end

/-- Settles O13: each outcome of R146 and R151 is one equation of its request's rule, after the arrival is counted; a STATION WRITE
with no body fails check 4 of R152 before its rule. -/
theorem slotMapAndStationRequests : Obligations.SlotMapAndStationRequests := by
  refine ⟨fun r s => ⟨fun admits long => ?slotmapWrite, fun admits => ?slotmapRead⟩, ?stationWrite⟩
  case slotmapWrite =>
    have body : 16 ≤ (bodyOf r).length := admits.body_length ▸ long
    have taken : exec (.slotmapWrite r) s = .next (slotmapWriteRule r (s.count .upstreamIn)) := exec_admitted admits long
    rw [taken]
    refine ⟨fun run => ?wrongState, fun run ⟨_, bad⟩ => ?badFormat, fun m run codes => ?written⟩
    case wrongState => exact congrArg _ (slotmapWriteRule_wrongState (s := s.count .upstreamIn) body run)
    case badFormat =>
      exact congrArg _ (slotmapWriteRule_badFormat (s := s.count .upstreamIn) body run (parseSlotMap_none bad))
    case written =>
      rw [slotmapWriteRule_written (s := s.count .upstreamIn) body run (parseSlotMap_some codes),
        slotMapBytes_eq_take codes body]
      rfl
  case slotmapRead => exact exec_admitted admits (Nat.zero_le r.bodyLen)
  case stationWrite =>
    intro r s admits b n l
    have body : b.length = r.bodyLen := admits.body_length
    have ruled (long : 1 ≤ r.bodyLen) : exec (.stationWrite r) s = .next (stationWriteRule r (s.count .upstreamIn)) :=
      exec_admitted admits long
    refine ⟨fun bad => ?badFormat, fun long few allowed distinct => ?written⟩
    case badFormat =>
      by_cases short : r.bodyLen < 1
      · exact exec_admitted_short admits short
      · have checks : b.length < 1 + 6 * n ∨ 4 < n ∨ stationsGood s.station l = false :=
          (bad.resolve_left short).imp (fun cut => body ▸ cut) (Or.imp_right stationsGood_eq_false)
        exact (ruled (Nat.le_of_not_lt short)).trans
          (congrArg _ (stationWriteRule_badFormat (s := s.count .upstreamIn) checks))
    case written =>
      exact (ruled (by omega)).trans (congrArg _ (stationWriteRule_written (s := s.count .upstreamIn) (body ▸ long) few
        (stationsGood_iff.2 ⟨allowed, distinct⟩)))

end Sys2Proof.Machine
end

section
/-! SUPPORT. How commands and frames reach their block (08_the_frame_path.md, 09_management_requests_and_notices.md): a step (95_what_each_step_holds.md),
requests dropped or refused by their header (R149, R150, R152), what an arriving frame becomes (R135, R137, R138), the entry that decides it
(R140), and the statements O1, O3, O4, O5 and O7. -/

namespace Sys2Proof.Machine

/-! ## The queue of commands -/

/-- Settles O1: the step's own equation on a queue that is not empty. -/
theorem stepRunsFrontCommand : Obligations.StepRunsFrontCommand := fun _ _ _ => rfl

/-! ## Requests -/

/-- Settles O3: `takeRequest` drops or refuses on the header alone, after the arrival is counted. -/
theorem requestsDroppedOrRefused : Obligations.RequestsDroppedOrRefused := by
  refine ⟨fun k r s dropped => ?_, fun k r s source destination station bad => ?_⟩
  · exact (exec_ofKind k r s).trans (congrArg _ (takeRequest_dropped k r (s.count .upstreamIn) dropped))
  · exact (exec_ofKind k r s).trans
      (congrArg _ (takeRequest_refused k r (s.count .upstreamIn) source destination station bad))

/-- The codes of the request kinds are 0x01 to 0x1B. -/
theorem ReqKind.ofCode_none {n : Nat} (other : n = 0 ∨ 0x1B < n) : ReqKind.ofCode? n = none := by
  refine Option.eq_none_iff_forall_ne_some.2 fun k known => ?_
  unfold ReqKind.ofCode? at known
  split at known <;> cases known <;> omega

theorem requestDropped_unicast {kind : Nat} {r : ProtocolFrame} (source : isGroup r.src = false) (unicast : r.broadcast = false) :
    requestDropped kind r = false := by
  simp only [requestDropped, source, unicast, Bool.false_and, Bool.or_false]

theorem State.stationAdmits_iff (s : State) (src : MacAddr) : s.stationAdmits src = true ↔ s.stations = [] ∨ src ∈ s.stations := by
  simp only [State.stationAdmits, Bool.or_eq_true, List.isEmpty_iff, List.contains_iff_mem]

section
variable {kind : Nat} {r : ProtocolFrame} {s : State}

/-- R149, R150: a request of no known kind that is dropped. -/
theorem takeRequest_unknown_dropped (unknown : ReqKind.ofCode? kind = none)
    (dropped : r.broadcast = true ∨ isGroup r.src = true ∨ (s.stations ≠ [] ∧ r.src ∉ s.stations)) :
    takeRequest kind r s = s.count .managementDrops := by
  have notIdentify : kind ≠ ReqKind.identify.code := by rintro rfl; simp [ReqKind.ofCode_code] at unknown
  unfold takeRequest
  by_cases early : requestDropped kind r = true
  · rw [if_pos early]
  · have unlisted : s.stations ≠ [] ∧ r.src ∉ s.stations := by
      simp only [requestDropped, Bool.or_eq_true, Bool.and_eq_true, bne_iff_ne, not_or, not_and] at early
      rcases dropped with cast | group | unlisted
      · exact absurd notIdentify (early.2 cast)
      · exact absurd group early.1
      · exact unlisted
    have refused : ¬ s.stationAdmits r.src = true := by rw [State.stationAdmits_iff]; exact not_or.2 unlisted
    rw [if_neg early, if_pos (by simpa using refused)]

/-- R152: an admitted request of no known kind, by the checks of its header. -/
theorem takeRequest_unknown_answered (unknown : ReqKind.ofCode? kind = none) (source : isGroup r.src = false)
    (unicast : r.broadcast = false) (station : s.stations = [] ∨ r.src ∈ s.stations) :
    takeRequest kind r s =
      s.respond r kind (if r.version ≠ 1 ∨ r.rest.length < r.bodyLen then .badFormat else .unknownKind) [] := by
  have admitted : s.stationAdmits r.src = true := (s.stationAdmits_iff r.src).2 station
  simp only [takeRequest, requestDropped_unicast source unicast, admitted, unknown, Bool.false_eq_true, Bool.not_true, if_false]
  split <;> rfl

end

/-! ## Frames taken out of the flow -/

theorem macAccepts_of_length {frame : List Byte} (low : 60 ≤ frame.length) (high : frame.length ≤ 1518) :
    macAccepts true frame = true := by
  simp only [macAccepts, Bool.true_and, Bool.and_eq_true, decide_eq_true_eq]
  omega

theorem State.isProtocolFrame_iff (s : State) (frame : List Byte) :
    s.isProtocolFrame frame = true ↔ beNat frame 12 2 = 0x8F37 ∧ (macAt frame 0 = s.station ∨ macAt frame 0 = broadcastAddr) := by
  simp only [State.isProtocolFrame, Config.vendorFrameType, Bool.and_eq_true, Bool.or_eq_true, beq_iff_eq]

@[simp] theorem State.acceptFrame_station (s : State) (p : Port) (src : MacAddr) : (s.acceptFrame p src).station = s.station := by
  cases p <;> simp [State.acceptFrame]

/-- R137: a protocol frame for the part is taken out of the flow. -/
theorem frameArrival_takenOut {frame : List Byte} {s : State} (low : 60 ≤ frame.length) (high : frame.length ≤ 1518)
    (vendor : beNat frame 12 2 = 0x8F37) (dest : macAt frame 0 = s.station ∨ macAt frame 0 = broadcastAddr) (p : Port) :
    exec (.frameArrival p true frame) s = .next ((s.acceptFrame p (macAt frame 6)).takeOut p frame) := by
  have taken : (s.acceptFrame p (macAt frame 6)).isProtocolFrame frame = true :=
    (State.isProtocolFrame_iff _ _).2 ⟨vendor, by rwa [State.acceptFrame_station]⟩
  change Host.Outcome.next (frameArrivalEvent p true frame s) = _
  rw [frameArrivalEvent, if_pos (macAccepts_of_length low high)]
  exact congrArg _ (if_pos taken)

/-- R164: a Room port frame of a kind that is neither JOIN nor REPORT. -/
theorem deskFrameRule_other {kind : Nat} (notJoin : kind ≠ Kind.join) (notReport : kind ≠ Kind.report) (r : ProtocolFrame)
    (s : State) : deskFrameRule kind r s = s.count .reportsIgnored := by
  rw [deskFrameRule, if_neg notJoin, if_neg notReport]; rfl

/-- R163: the body length is read from two bytes, and the header takes 20. -/
theorem parseFrame_beyond_iff {frame : List Byte} (low : 60 ≤ frame.length) :
    (parseFrame frame).rest.length < (parseFrame frame).bodyLen ↔ frame.length < beNat frame 18 2 + 20 := by
  simp only [parseFrame, List.length_drop]; omega

/-- Settles O4: the arrival of a protocol frame is `State.takeOut`, whose Upstream side is `takeRequest` and whose Room side is
`deskFrameRule`, of the kind and the header read from the frame. -/
theorem frameArrivalTakenOut : Obligations.FrameArrivalTakenOut := by
  refine ⟨?known, fun frame s low high vendor => ⟨?unknown, ?room⟩⟩
  case known =>
    intro frame s low high vendor dest r
    have arrives := frameArrival_takenOut low high vendor dest
    refine ⟨fun k kind => ?_, fun kind => ?_, fun kind => ?_⟩
    · rw [arrives, exec_ofKind, requestEvent, ← kind]; rfl
    · have code : frameKind frame = Kind.join := by rw [frameKind, kind]; rfl
      rw [arrives, State.takeOut, code]; rfl
    · have code : frameKind frame = Kind.report := by rw [frameKind, kind]; rfl
      rw [arrives, State.takeOut, code]; rfl
  case unknown =>
    intro other answered
    have noKind : ReqKind.ofCode? (frameKind frame) = none := ReqKind.ofCode_none other
    have arrives (dest : macAt frame 0 = s.station ∨ macAt frame 0 = broadcastAddr) :
        exec (.frameArrival .upstream true frame) s = .next (takeRequest (frameKind frame) (parseFrame frame) (s.count .upstreamIn)) :=
      frameArrival_takenOut low high vendor dest .upstream
    refine ⟨fun dropped => ?_, fun dest notBroadcast source station => ?_⟩
    · have reasons : (parseFrame frame).broadcast = true ∨ isGroup (parseFrame frame).src = true ∨
          (s.stations ≠ [] ∧ (parseFrame frame).src ∉ s.stations) :=
        dropped.imp (fun cast => beq_iff_eq.2 cast) And.right
      rw [arrives (dropped.symm.imp And.left id)]
      exact congrArg _ (takeRequest_unknown_dropped (s := s.count .upstreamIn) noKind reasons)
    · have unicast : (parseFrame frame).broadcast = false := by
        simp only [parseFrame, beq_eq_false_iff_ne, dest]; exact notBroadcast
      have taken := (arrives (.inl dest)).trans (congrArg _
        (takeRequest_unknown_answered (s := s.count .upstreamIn) noKind source unicast station))
      refine ⟨fun bad => ?_, fun version fits => ?_⟩
      · have refused : (parseFrame frame).version ≠ 1 ∨ (parseFrame frame).rest.length < (parseFrame frame).bodyLen :=
          bad.imp id (parseFrame_beyond_iff low).2
        rw [if_pos refused] at taken; exact taken
      · have passed : ¬ ((parseFrame frame).version ≠ 1 ∨ (parseFrame frame).rest.length < (parseFrame frame).bodyLen) :=
          not_or.2 ⟨not_not.2 version, fun beyond => ((parseFrame_beyond_iff low).1 beyond).not_ge fits⟩
        rw [if_neg passed] at taken; exact taken
  case room =>
    intro dest notJoin notReport
    have kind (code : Byte) (differs : byteAt frame 15 ≠ code) : frameKind frame ≠ code.toNat :=
      fun same => differs (BitVec.eq_of_toNat_eq same)
    rw [frameArrival_takenOut low high vendor dest, State.takeOut]
    exact congrArg _ (deskFrameRule_other (kind _ notJoin) (kind _ notReport) _ _)

/-! ## Frames that stay in the flow -/

theorem macAccepts_eq_false {good : Bool} {frame : List Byte} (bad : good = false ∨ frame.length < 60 ∨ 1518 < frame.length) :
    macAccepts good frame = false := by
  rw [Bool.eq_false_iff]
  simp only [macAccepts, ne_eq, Bool.and_eq_true, decide_eq_true_eq]
  rintro ⟨⟨rfl, low⟩, high⟩
  rcases bad with bad | bad | bad
  · cases bad
  · omega
  · omega

/-- R135: a frame that is accepted and is no protocol frame of the part is classified. -/
theorem frameArrival_classified {frame : List Byte} {s : State} (low : 60 ≤ frame.length) (high : frame.length ≤ 1518)
    (other : ¬ (beNat frame 12 2 = 0x8F37 ∧ (macAt frame 0 = s.station ∨ macAt frame 0 = broadcastAddr))) (p : Port) :
    exec (.frameArrival p true frame) s = .next ((s.acceptFrame p (macAt frame 6)).classify p frame) := by
  have stays : ¬ (s.acceptFrame p (macAt frame 6)).isProtocolFrame frame = true := by
    rwa [State.isProtocolFrame_iff, State.acceptFrame_station]
  change Host.Outcome.next (frameArrivalEvent p true frame s) = _
  rw [frameArrivalEvent, if_pos (macAccepts_of_length low high)]
  exact congrArg _ (if_neg stays)

/-- R138, toward the Room port. -/
theorem State.passThrough_upstream (s : State) (frame : List Byte) :
    s.passThrough .upstream frame =
      if s.roomLink then
        if s.toRoom.length < 64 then { s with toRoom := s.toRoom ++ [frame] } else s.count .toRoomOverflow
      else s.count .upstreamDropped := rfl

/-- R138, toward the Upstream port. -/
theorem State.passThrough_room (s : State) (frame : List Byte) :
    s.passThrough .room frame =
      if s.upstreamLink then
        if s.toUpstream.length < 64 then { s with toUpstream := s.toUpstream ++ [frame] } else s.count .toUpstreamOverflow
      else s.count .roomDropped := rfl

section
variable {s : State} {p : Port} {frame : List Byte} {i : Fin 32}

theorem State.classify_none (none_decides : s.decidingEntry p frame = none) : s.classify p frame = s.passThrough p frame := by
  simp only [State.classify, none_decides]

variable (decides : s.decidingEntry p frame = some i)
include decides

theorem State.classify_pass (action : s.matchTable[i].action = .pass) : s.classify p frame = (s.hit i).passThrough p frame := by
  simp only [State.classify, decides, action]

theorem State.classify_drop (action : s.matchTable[i].action = .drop) :
    s.classify p frame = (s.hit i).count (droppedCounter p) := by
  simp only [State.classify, decides, action]

/-- R140, R43: a frame that the deciding entry gives to the Boot Responder, its hit counted. -/
theorem State.classify_boot (action : s.matchTable[i].action = .boot) : s.classify p frame = (s.bootHit p frame).bootEvent p frame := by
  simp only [State.classify, State.bootHit, decides, action, if_true]

end

/-- Settles O5: an accepted frame that stays in the flow is `State.classify` on the state after its arrival's effects; the crossing is
the two equations of `State.passThrough`. -/
theorem frameArrivalClassified : Obligations.FrameArrivalClassified := by
  refine ⟨fun p good frame s => ⟨fun bad => ?dropped, ?classified⟩, fun frame s => ?crossing⟩
  case dropped =>
    change Host.Outcome.next (frameArrivalEvent p good frame s) = _
    rw [frameArrivalEvent, macAccepts_eq_false bad]; rfl
  case classified =>
    rintro rfl low high other s1
    have arrives : exec (.frameArrival p true frame) s = .next (s1.classify p frame) := by
      rw [frameArrival_classified low high other]; cases p <;> rfl
    refine ⟨fun undecided => arrives.trans (congrArg _ (State.classify_none undecided)), ?decided⟩
    intro i decides e s2
    refine ⟨fun action => ?_, fun action => ?_, fun action => ?_⟩
    · rw [arrives, State.classify_pass decides action]; rfl
    · rw [arrives, State.classify_drop decides action]; rfl
    · rw [arrives, State.classify_boot decides action]; cases p <;> rfl
  case crossing =>
    rw [State.passThrough_upstream, State.passThrough_room]
    refine ⟨fun down => by rw [if_neg (by simp [down])], fun up full => ?_, fun up room => ?_,
      fun down => by rw [if_neg (by simp [down])], fun up full => ?_, fun up room => ?_⟩
    · rw [if_pos up, if_neg (Nat.not_lt.2 full)]
    · rw [if_pos up, if_pos room]
    · rw [if_pos up, if_neg (Nat.not_lt.2 full)]
    · rw [if_pos up, if_pos room]

/-! ## The deciding entry -/

/-- The first place at which a test of the places holds. -/
theorem find_finRange_eq_some_iff {n : Nat} (p : Fin n → Bool) (i : Fin n) :
    (List.finRange n).find? p = some i ↔ p i = true ∧ ∀ j < i, p j = false := by
  rw [List.find?_eq_some_iff_getElem]
  simp only [List.getElem_finRange, List.length_finRange, Bool.not_eq_true']
  refine and_congr_right fun _ => ⟨?_, fun earlier => ⟨i.val, i.isLt, rfl, fun j less => earlier _ less⟩⟩
  rintro ⟨k, bound, rfl, earlier⟩ j less
  exact earlier j.val less

/-- R140: an entry in force that matches a frame. -/
theorem State.live_iff (s : State) (p : Port) (frame : List Byte) (i : Fin 32) :
    (s.inForce i && (s.matchTable[i]).covers p frame) = true ↔
      i.val < s.liveCount ∧ (s.matchTable[i].nightOnly = true → s.run.inProgress = true) ∧ (s.matchTable[i]).covers p frame = true := by
  simp only [State.inForce, Bool.and_eq_true, decide_eq_true_eq, Bool.or_eq_true, Bool.not_eq_true', ← Bool.not_eq_true, and_assoc,
    imp_iff_not_or]

/-- Settles O7: the deciding entry is the first that `State.live_iff` admits. -/
theorem firstMatchDecides : Obligations.FirstMatchDecides := by
  intro p frame s live
  have holds (i : Fin 32) : (s.inForce i && (s.matchTable[i]).covers p frame) = true ↔ live i := s.live_iff p frame i
  constructor
  · intro i
    rw [State.decidingEntry, find_finRange_eq_some_iff, holds]
    simp only [← Bool.not_eq_true, holds]
  · rw [State.decidingEntry, List.find?_eq_none]
    simp only [List.mem_finRange, forall_const, holds]

end Sys2Proof.Machine
end

section
/-! SUPPORT. The Management Unit's readings and resets, the links and the two egresses (08_the_frame_path.md,
09_management_requests_and_notices.md): what STATUS READ, COUNTERS READ and EVENTS CLEAR answer (R155, R157, R159), what the resets leave (R161,
R162), what a link change and a frame opportunity do (R134, R145, R147), and the statements O14, O15, O16, O48, O49 and O52. -/

namespace Sys2Proof.Machine

/-! ## STATUS READ -/

/-- R127: the window time left in each run state. -/
theorem State.windowLeft_eq (s : State) :
    s.windowLeft = match s.run with
      | .standby => 0
      | .running _ _ deadline => deadline - s.now
      | .closed _ _ left => left := by
  unfold State.windowLeft; cases s.run <;> rfl

/-- R129: the code of the close cause, in CLOSED only. -/
theorem State.closeCause_code (s : State) :
    s.closeCause.map CloseCause.code = match s.run with
      | .closed _ cause _ => some cause.code
      | _ => none := by
  unfold State.closeCause; cases s.run <;> rfl

/-- R79. -/
theorem State.starved_eq (s : State) :
    s.starved = ((s.current == s.fill && s.slots.toList.all fun x => !x.isReady) || s.exhausted) := by
  simp only [State.starved, State.anyReady, List.not_any_eq_all_not]

/-- R10: the eight counts in the order of the state codes. -/
theorem State.deskCounts_eq (s : State) :
    deskStates.flatMap (fun x => beBytes 1 (s.deskCount x)) =
      beBytes 1 (s.deskCount .idle) ++ beBytes 1 (s.deskCount .queued) ++ beBytes 1 (s.deskCount .waking)
        ++ beBytes 1 (s.deskCount .awake) ++ beBytes 1 (s.deskCount .offered) ++ beBytes 1 (s.deskCount .joined)
        ++ beBytes 1 (s.deskCount .complete) ++ beBytes 1 (s.deskCount .failed) := rfl

/-! ## COUNTERS READ and EVENTS CLEAR -/

section
variable {r : ProtocolFrame} {s : State} (long : 1 ≤ (bodyOf r).length)
include long

/-- R157: a clear option that is no or yes. -/
theorem countersReadRule_taken {clear : Bool} (option : boolOfCode? (byteAt (bodyOf r) 0).toNat = some clear) :
    countersReadRule r s =
      State.answer (if clear then { s with counters := Vector.replicate 22 0 } else s) r .countersRead .ok s.counterBytes := by
  simp only [countersReadRule, option, if_neg (Nat.not_lt.2 long)]

/-- R157: any other clear option. -/
theorem countersReadRule_badFormat (option : boolOfCode? (byteAt (bodyOf r) 0).toNat = none) :
    countersReadRule r s = s.refuse r .countersRead .badFormat := by
  simp only [countersReadRule, option, if_neg (Nat.not_lt.2 long)]

omit long in
/-- R159: a set that names a kind there is not. -/
theorem eventsClearRule_badFormat (eighth : (byteAt (bodyOf r) 0).getLsbD 7 = true) :
    eventsClearRule r s = s.refuse r .eventsClear .badFormat := by
  simp only [eventsClearRule, eighth, Bool.or_true, if_true]

/-- R159: a set of the seven kinds. -/
theorem eventsClearRule_taken (seven : (byteAt (bodyOf r) 0).getLsbD 7 = false) :
    eventsClearRule r s = State.answer { s with flags := s.flags &&& ~~~((byteAt (bodyOf r) 0).setWidth 7) } r .eventsClear .ok
      (beBytes 1 (s.flags &&& ~~~((byteAt (bodyOf r) 0).setWidth 7)).toNat) := by
  simp only [eventsClearRule, seven, Bool.or_false, decide_eq_true_eq, if_neg (Nat.not_lt.2 long)]

end

/-- R159: a flag stays unless the set names it. -/
theorem clearedFlags_bit (flags : EventSet) (set : Byte) {k : Nat} (h : k < 7) :
    (flags &&& ~~~(set.setWidth 7)).getLsbD k = (flags.getLsbD k && !set.getLsbD k) := by
  simp [h]

/-- Settles O14: each reading is one equation of its request's rule, after the arrival is counted. -/
theorem statusCountersAndEventFlags : Obligations.StatusCountersAndEventFlags := by
  refine ⟨?status, ?counters, ?flags⟩
  case status =>
    intro r s admits number left cause
    have taken : exec (.statusRead r) s = .next (statusReadRule r (s.count .upstreamIn)) := exec_admitted admits (Nat.zero_le _)
    rw [taken, statusReadRule, State.answer_eq, State.statusBytes, State.closeCause_code, State.windowLeft_eq, State.starved_eq,
      State.deskCounts_eq]
    rfl
  case counters =>
    intro r s admits long s1 clear values
    have taken : exec (.countersRead r) s = .next (countersReadRule r s1) := exec_admitted admits long
    have body : 1 ≤ (bodyOf r).length := admits.body_length ▸ long
    refine ⟨fun no => ?_, fun yes => ?_, fun notNo notYes => ?_⟩
    · exact taken.trans (congrArg _ (countersReadRule_taken body (clear := false) (congrArg (fun b : Byte => boolOfCode? b.toNat) no)))
    · exact taken.trans (congrArg _ (countersReadRule_taken body (clear := true) (congrArg (fun b : Byte => boolOfCode? b.toNat) yes)))
    · have above : 1 < clear.toNat := by bv_omega
      exact taken.trans (congrArg _ (countersReadRule_badFormat body (boolOfCode_none above)))
  case flags =>
    intro r s admits long set
    have taken : exec (.eventsClear r) s = .next (eventsClearRule r (s.count .upstreamIn)) := exec_admitted admits long
    have body : 1 ≤ (bodyOf r).length := admits.body_length ▸ long
    refine ⟨fun eighth => ?_, fun seven => ⟨_, fun k => clearedFlags_bit s.flags set, ?_⟩⟩
    · exact taken.trans (congrArg _ (eventsClearRule_badFormat eighth))
    · exact taken.trans (congrArg _ (eventsClearRule_taken body seven))

/-! ## Resets -/

/-- R161: what an ENGINE RESET leaves. -/
theorem State.engineReset_eq (s : State) :
    s.engineReset = { s with
      desks := Vector.ofFn fun d => { s.desks[d] with night := Night.idle }
      circuits := Vector.ofFn fun c => { s.circuits[c] with load := 0, gapTimer := none, decayTimer := none }
      wakeQueue := [], slots := Vector.replicate 64 .empty, tail := 0, current := 0, fill := 0, currentPass := 0
      position := 0, exhausted := false, repairQueue := [], transmission := none, repairCount := 0, wanted := []
      controlQueue := [], run := .standby, flags := 0, noticeEnable := 0
      counters := (if s.anyFilling then s.count .discards else s).counters } := by
  have counters : (s.mapNight fun _ _ => Night.idle).clearRing.counters = (if s.anyFilling then s.count .discards else s).counters :=
    (State.clearRing_counters_congr (State.mapNight_slots ..) (State.mapNight_counters ..)).trans (State.clearRing_counters s)
  apply State.ext_fields <;> simp [State.engineReset, State.mapNight_desks, counters]

/-- Settles O15: the reset's own equation, after the arrival is counted. -/
theorem engineResetValues : Obligations.EngineResetValues := by
  intro r s admits s1
  have taken : exec (.engineReset r) s = .next (engineResetRule r s1) := exec_admitted admits (Nat.zero_le _)
  rw [taken, engineResetRule, State.engineReset_eq]
  rfl

/-- Settles O16: the response finds the reply queue of the reset state empty; power-on is its own equation. -/
theorem fullResetAndPowerOnValues : Obligations.FullResetAndPowerOnValues :=
  ⟨fun r _ admits => exec_admitted admits (Nat.zero_le r.bodyLen), fun _ => rfl⟩

/-! ## Links -/

theorem cutTransmission_eq (t : Option Transmission) :
    cutTransmission t = t.map fun t => if t.cut then t else { t with cut := true, next := 0 } := by
  cases t with
  | none => rfl
  | some t => simp only [cutTransmission, Option.map_some]; split <;> rfl

theorem uncutTransmission_eq (t : Option Transmission) : uncutTransmission t = t.map fun t => { t with cut := false } := by
  cases t <;> rfl

/-- R134: the Upstream link goes down. -/
theorem linkDownEvent_upstream {s : State} (up : s.upstreamLink = true) :
    linkDownEvent .upstream s = { s with
      upstreamLink := false, toUpstream := [], upstreamSending := none
      counters := (if s.upstreamSending.isSome then (s.countBy .roomDropped s.toUpstream.length).count .upstreamDropped
        else s.countBy .roomDropped s.toUpstream.length).counters } := by
  simp only [linkDownEvent, up, if_true]
  split <;> rfl

/-- R134, R94: the Room link goes down. -/
theorem linkDownEvent_room {s : State} (up : s.roomLink = true) :
    linkDownEvent .room s = { s with
      roomLink := false, toRoom := [], roomSending := none
      transmission := if s.run.active then s.transmission.map fun t => if t.cut then t else { t with cut := true, next := 0 }
        else s.transmission
      counters := (if s.roomSending.isSome then (s.countBy .upstreamDropped s.toRoom.length).count .roomDropped
        else s.countBy .upstreamDropped s.toRoom.length).counters } := by
  simp only [linkDownEvent, up, if_true, cutTransmission_eq]
  split <;> rfl

/-- R134, R94: the Room link comes up. -/
theorem linkUpEvent_room {s : State} (down : s.roomLink = false) :
    linkUpEvent .room s = { s with
      roomLink := true
      transmission := if s.run.active then s.transmission.map fun t => { t with cut := false } else s.transmission } := by
  simp only [linkUpEvent, down, Bool.false_eq_true, if_false, uncutTransmission_eq]

/-- Settles O48: a change is its event's one equation; a link already so is left. -/
theorem linkChanges : Obligations.LinkChanges := by
  intro s
  refine ⟨fun up => congrArg _ (linkDownEvent_upstream up), fun up => congrArg _ (linkDownEvent_room up),
    fun down => ⟨?_, rfl⟩, fun down => ⟨?_, congrArg _ (linkUpEvent_room down)⟩, fun up => ?_, fun up => ?_⟩
  · exact congrArg Host.Outcome.next (if_neg (by rw [down]; exact Bool.false_ne_true))
  · exact congrArg Host.Outcome.next (if_neg (by rw [down]; exact Bool.false_ne_true))
  · change Host.Outcome.next { s with upstreamLink := true } = _; rw [← up]
  · exact congrArg Host.Outcome.next (if_pos up)

/-! ## The Upstream egress -/

section
variable {s : State}

/-- R147: the reply queue's turn. -/
theorem State.upstreamSource_reply (up : s.upstreamLink = true) (free : s.upstreamSending = none) (waiting : s.replyQueue ≠ [])
    (turn : s.toUpstream = [] ∨ s.lastServed = .fifo) : s.upstreamSource = some .reply := by
  have ready : (s.upstreamLink && s.upstreamSending.isNone) = true := by simp [up, free]
  simp only [State.upstreamSource, if_pos ready, List.isEmpty_iff, if_neg waiting]
  rcases turn with alone | last
  · rw [if_pos alone]
  · rw [last]; split <;> rfl

/-- R147: the FIFO's turn. -/
theorem State.upstreamSource_fifo (up : s.upstreamLink = true) (free : s.upstreamSending = none) (waiting : s.toUpstream ≠ [])
    (turn : s.replyQueue = [] ∨ s.lastServed = .reply) : s.upstreamSource = some .fifo := by
  have ready : (s.upstreamLink && s.upstreamSending.isNone) = true := by simp [up, free]
  simp only [State.upstreamSource, if_pos ready, List.isEmpty_iff, if_neg waiting]
  rcases turn with alone | last
  · rw [if_pos alone]
  · rw [last]; split <;> rfl

/-- R147: no opportunity arises. -/
theorem State.upstreamSource_none (idle : s.upstreamLink = false ∨ s.upstreamSending ≠ none ∨ (s.replyQueue = [] ∧ s.toUpstream = [])) :
    s.upstreamSource = none := by
  unfold State.upstreamSource
  split
  · next ready =>
    simp only [Bool.and_eq_true, Option.isNone_iff_eq_none] at ready
    rcases idle with down | busy | ⟨noReply, noFrame⟩
    · rw [down] at ready; cases ready.1
    · exact absurd ready.2 busy
    · simp [noReply, noFrame]
  · rfl

end

/-- Settles O52: the source decides the opportunity's one equation, and a frame sent is counted at its port. -/
theorem upstreamAlternatesAndFramesAreSent : Obligations.UpstreamAlternatesAndFramesAreSent := by
  intro s
  have opportunity : exec .upstreamFrameOpportunity s = .next (upstreamOpportunityEvent s) := rfl
  refine ⟨fun up free => ⟨fun f rest queue turn => ?_, fun frame rest queue turn => ?_⟩, fun idle => ?_, fun busy => ?_,
    fun busy => ?_, fun free => ?_, fun free => ?_⟩
  · have source := State.upstreamSource_reply up free (by rw [queue]; exact List.cons_ne_nil f rest) turn
    simp only [opportunity, upstreamOpportunityEvent, source, queue]
  · have source := State.upstreamSource_fifo up free (by rw [queue]; exact List.cons_ne_nil frame rest) turn
    simp only [opportunity, upstreamOpportunityEvent, source, queue]
  · simp only [opportunity, upstreamOpportunityEvent, State.upstreamSource_none idle]
  · exact congrArg Host.Outcome.next (if_pos (Option.isSome_iff_ne_none.2 busy))
  · exact congrArg Host.Outcome.next (if_pos (Option.isSome_iff_ne_none.2 busy))
  · exact congrArg Host.Outcome.next (if_neg (by rw [free]; exact Bool.false_ne_true))
  · exact congrArg Host.Outcome.next (if_neg (by rw [free]; exact Bool.false_ne_true))

/-! ## The Room egress -/

/-- R83: when the Stream Engine offers a frame. -/
theorem State.streamOffers_iff (s : State) :
    s.streamOffers = true ↔ s.run.active = true ∧ s.roomLink = true ∧ (s.transmission ≠ none ∨
      (s.exhausted = false ∧ (s.slots[s.current]).isReady = true) ∨ s.repairQueue ≠ []) := by
  simp only [State.streamOffers, State.newBlockReady, Bool.and_eq_true, Bool.or_eq_true, Option.isSome_iff_ne_none,
    Bool.not_eq_true', List.isEmpty_eq_false_iff, and_assoc, or_assoc]

/-- R145: which sources have a frame. -/
def State.SourceHas (s : State) : Source → Prop
  | .pass => s.toRoom ≠ []
  | .control => s.controlQueue ≠ []
  | .stream => s.run.active = true ∧ s.roomLink = true ∧ (s.transmission ≠ none ∨
      (s.exhausted = false ∧ (s.slots[s.current]).isReady = true) ∨ s.repairQueue ≠ [])

theorem State.sourceHas_iff (s : State) (x : Source) : s.sourceHas x = true ↔ s.SourceHas x := by
  cases x with
  | pass => simp only [State.sourceHas, State.SourceHas, Bool.not_eq_true', List.isEmpty_eq_false_iff]
  | control => simp only [State.sourceHas, State.SourceHas, Bool.not_eq_true', List.isEmpty_eq_false_iff]
  | stream => exact s.streamOffers_iff

/-- R145: the map's source where it has a frame, and else the first of CONTROL, PASS and STREAM that has one. -/
def State.Serves (s : State) (x : Source) : Prop :=
  s.SourceHas x ∧ (x = s.slotMap[s.egressPos] ∨ (¬ s.SourceHas s.slotMap[s.egressPos] ∧
    (x = .control ∨ (¬ s.SourceHas .control ∧ (x = .pass ∨ ¬ s.SourceHas .pass)))))

section
variable {s : State}

/-- R145: the source served at an opportunity. -/
theorem State.roomSource_of_serves {x : Source} (up : s.roomLink = true) (free : s.roomSending = none) (serves : s.Serves x) :
    s.roomSource = some x := by
  have ready : (s.roomLink && s.roomSending.isNone) = true := by simp [up, free]
  have present {y : Source} (h : s.SourceHas y) : s.sourceHas y = true := (s.sourceHas_iff y).2 h
  have absent {y : Source} (h : ¬ s.SourceHas y) : ¬ s.sourceHas y = true := mt (s.sourceHas_iff y).1 h
  rw [State.roomSource, if_pos ready]
  obtain ⟨has, rfl | ⟨named, rfl | ⟨control, rfl | pass⟩⟩⟩ := serves
  · rw [if_pos (present has)]
  · rw [if_neg (absent named), if_pos (present has)]
  · rw [if_neg (absent named), if_neg (absent control), if_pos (present has)]
  · obtain rfl : x = .stream := by
      cases x with
      | pass => exact absurd has pass
      | control => exact absurd has control
      | stream => rfl
    rw [if_neg (absent named), if_neg (absent control), if_neg (absent pass), if_pos (present has)]

/-- R145: no opportunity arises. -/
theorem State.roomSource_none (idle : s.roomLink = false ∨ s.roomSending ≠ none ∨ ∀ x, ¬ s.SourceHas x) : s.roomSource = none := by
  unfold State.roomSource
  split
  · next ready =>
    simp only [Bool.and_eq_true, Option.isNone_iff_eq_none] at ready
    rcases idle with down | busy | empty
    · rw [down] at ready; cases ready.1
    · exact absurd ready.2 busy
    · have absent (y : Source) : ¬ s.sourceHas y = true := mt (s.sourceHas_iff y).1 (empty y)
      simp only [if_neg (absent _)]
  · rfl

/-- R77, R128: what follows an event that frees no slot and finishes no desk: nothing. -/
theorem State.settle_quiet {before s : State} (slots : s.slots = before.slots) : State.settle before s false = s :=
  (if_neg Bool.false_ne_true).trans (State.ringSpace_of_slots slots)

theorem roomOpportunityEvent_of_serves {x : Source} (up : s.roomLink = true) (free : s.roomSending = none) (serves : s.Serves x) :
    roomOpportunityEvent s = State.settle s (s.serveRoom x).1 (s.serveRoom x).2 := by
  simp only [roomOpportunityEvent, State.roomSource_of_serves up free serves]

/-- R145: the PASS source is served. -/
theorem State.serveRoom_pass {frame : List Byte} {rest : List (List Byte)} (queue : s.toRoom = frame :: rest) :
    s.serveRoom .pass = ({ s with toRoom := rest, roomSending := some frame, egressPos := s.egressPos + 1 }, false) := by
  simp only [State.serveRoom, queue, State.handRoom]

/-- R144, R145: the CONTROL source is served, with a scan when the queue was full. -/
theorem State.serveRoom_control {f : ControlFrame} {rest : List ControlFrame} (queue : s.controlQueue = f :: rest) :
    s.serveRoom .control =
      if 16 ≤ s.controlQueue.length then
        State.scan { s with controlQueue := rest, roomSending := some (f.bytes s.station), egressPos := s.egressPos + 1 }
      else ({ s with controlQueue := rest, roomSending := some (f.bytes s.station), egressPos := s.egressPos + 1 }, false) := by
  simp only [State.serveRoom, queue, State.handRoom, Config.controlFrames]

/-- R145: the STREAM source is served. -/
theorem State.serveRoom_stream {info : RunInfo} {deadline : Nat} (run : s.run = .running false info deadline) :
    s.serveRoom .stream =
      ({ (s.serveStream info).1 with roomSending := some (s.serveStream info).2, egressPos := s.egressPos + 1 }, false) := by
  have position : (s.serveStream info).1.egressPos = s.egressPos := by rw [State.serveStream_eq]
  simp only [State.serveRoom, run, State.handRoom, position]

end

/-- Settles O49: the source served decides `State.serveRoom`, and what follows is a settlement that only a scan or a freed slot moves. -/
theorem roomOpportunityServesSource : Obligations.RoomOpportunityServesSource := by
  intro s has named serves
  have opportunity : exec .roomFrameOpportunity s = .next (roomOpportunityEvent s) := rfl
  have has_eq : has = s.SourceHas := by funext x; cases x <;> rfl
  have serves_eq : serves = s.Serves := by simp only [serves, has_eq, named]; rfl
  rw [serves_eq, has_eq, opportunity]
  refine ⟨fun idle => ?_, fun up free => ⟨fun frame rest turn queue => ?_, ?_, fun info deadline turn run => ?_⟩⟩
  · simp only [roomOpportunityEvent, State.roomSource_none idle]
  · rw [roomOpportunityEvent_of_serves up free turn, State.serveRoom_pass queue]
    exact congrArg _ (State.settle_quiet rfl)
  · intro f rest turn queue s1
    rw [roomOpportunityEvent_of_serves up free turn, State.serveRoom_control queue]
    split
    · rfl
    · exact congrArg _ (State.settle_quiet rfl)
  · rw [roomOpportunityEvent_of_serves up free turn, State.serveRoom_stream run]
    rfl

end Sys2Proof.Machine
end

section
/-! SUPPORT. The Night Run's course (01_the_desk_table.md, 07_the_night_run.md, 09_management_requests_and_notices.md): the run parameter record as
taken (R121), the start, pause, resume and close of a run (R122, R124, R125, R127, R129, R130), the raising of events and what follows an event's own
work (R77, R128, R158, R160), the ends of a desk (R17, R18), and the statements O17, O18, O20, O22, O37, O39 and O40. -/

namespace Sys2Proof.Machine

/-! ## The run parameter record -/

theorem clampSetting_le {low high : Nat} (order : low ≤ high) (v : Nat) : clampSetting low high v ≤ high := by
  unfold clampSetting; omega

theorem le_clampSetting (low high v : Nat) : low ≤ clampSetting low high v := le_max_left _ _

/-- R121: a setting is left as carried exactly when it is in its range. -/
theorem clampSetting_eq_self_iff {low high : Nat} (order : low ≤ high) (v : Nat) :
    clampSetting low high v = v ↔ low ≤ v ∧ v ≤ high := by
  unfold clampSetting; omega

/-- R121: the clamped record is in range. -/
theorem RunParams.clamped_inRange (p : RunParams) : p.clamped.InRange where
  window := ⟨le_clampSetting .., clampSetting_le (by decide) _⟩
  wakeTimeout := ⟨le_clampSetting .., clampSetting_le (by decide) _⟩
  discoveryTimeout := ⟨le_clampSetting .., clampSetting_le (by decide) _⟩
  joinTimeout := ⟨le_clampSetting .., clampSetting_le (by decide) _⟩
  silenceTimeout := ⟨le_clampSetting .., clampSetting_le (by decide) _⟩
  reportInterval := ⟨le_clampSetting .., clampSetting_le (by decide) _⟩
  wakeAttemptLimit := ⟨le_clampSetting .., clampSetting_le (by decide) _⟩
  pollLimit := ⟨le_clampSetting .., clampSetting_le (by decide) _⟩
  restartLimit := clampSetting_le (by decide) _
  repairBurst := ⟨le_clampSetting .., clampSetting_le (by decide) _⟩
  lagLimit := ⟨le_clampSetting .., clampSetting_le (by decide) _⟩
  decayInterval := ⟨le_clampSetting .., clampSetting_le (by decide) _⟩
  lowWater := ⟨le_clampSetting .., clampSetting_le (by decide) _⟩

/-- R121: a record in range is left as it stands. -/
theorem RunParams.clamped_of_inRange {p : RunParams} (h : p.InRange) : p.clamped = p := by
  have same {low high v : Nat} (order : low ≤ high) (range : low ≤ v ∧ v ≤ high) : clampSetting low high v = v :=
    (clampSetting_eq_self_iff order v).2 range
  simp only [RunParams.clamped, same (by decide) h.window, same (by decide) h.wakeTimeout, same (by decide) h.discoveryTimeout,
    same (by decide) h.joinTimeout, same (by decide) h.silenceTimeout, same (by decide) h.reportInterval,
    same (by decide) h.wakeAttemptLimit, same (by decide) h.pollLimit, same (by decide) ⟨Nat.zero_le _, h.restartLimit⟩,
    same (by decide) h.repairBurst, same (by decide) h.lagLimit, same (by decide) h.decayInterval, same (by decide) h.lowWater]

theorem RunParams.clamped_eq_self_iff (p : RunParams) : p.clamped = p ↔ p.InRange :=
  ⟨fun same => same ▸ p.clamped_inRange, RunParams.clamped_of_inRange⟩

/-- R121: the record a RUN START takes is in range. -/
theorem takenParams_inRange (b : List Byte) : (takenParams b).InRange := RunParams.clamped_inRange _

theorem anyClamped_eq_false_iff (b : List Byte) : anyClamped b = false ↔ (parseRunParams b).withDefaults.InRange := by
  rw [← RunParams.clamped_eq_self_iff, anyClamped, takenParams, bne_eq_false_iff_eq]

/-- Settles O17: the record is `RunParams.clamped` of the record with its defaults, each setting by `clampSetting`. -/
theorem runParamsBroughtIntoRange : Obligations.RunParamsBroughtIntoRange := by
  intro b p q
  have default_used {d v high : Nat} (zero : v = 0) (range : 1 ≤ d ∧ d ≤ high) :
      clampSetting 1 high (if v = 0 then d else v) = d := by
    rw [if_pos zero]; exact (clampSetting_eq_self_iff (range.1.trans range.2) d).2 range
  refine ⟨takenParams_inRange b, ⟨rfl, rfl, rfl, rfl, rfl, rfl, rfl, rfl, rfl, rfl, rfl, rfl⟩, fun zero => ?_, fun zero => ?_,
    fun zero => ?_, fun carried => ?_, fun carried => ?_, fun carried => ?_,
    ⟨rfl, rfl, rfl, rfl, rfl, rfl, rfl, rfl, Nat.zero_max _, rfl⟩, anyClamped_eq_false_iff b⟩
  · exact default_used zero (by decide)
  · change clampSetting 10 1000 (if p.decayInterval = 0 then 100 else p.decayInterval) = 100
    rw [if_pos zero]; rfl
  · exact default_used zero (by decide)
  · exact congrArg (clampSetting 1 8) (if_neg carried)
  · exact congrArg (clampSetting 10 1000) (if_neg carried)
  · exact congrArg (clampSetting 1 63) (if_neg carried)

/-! ## RUN START -/

/-- R120: a RUN START in STANDBY that fails no check. -/
theorem runStartFault_none {s : State} {b : List Byte} (run : s.run = .standby)
    (length : 51 + (byteAt b 49).toNat + (byteAt b 50).toNat ≤ b.length) (blocks : beNat b 2 3 ≠ 0)
    (group : isGroup (macAt b 9) = true) (notBroadcast : macAt b 9 ≠ broadcastAddr) (name : (byteAt b 49).toNat ≤ 64)
    (marker : (byteAt b 50).toNat ≤ 16) (action : (byteAt b 31).toNat ≤ 2) (kinds : (byteAt b 32).getLsbD 7 = false)
    (enrolled : ∃ d : DeskId, (s.desks[d].config).enrols = true) : runStartFault s b = none := by
  have someEnrols : ¬ s.desks.toList.all (fun d => !d.config.enrolled || d.config.address == 0) = true := by
    rw [← State.noDesk_enrols]
    obtain ⟨d, enrols⟩ := enrolled
    have held : s.desks.toList.any (fun d => d.config.enrols) = true :=
      (vector_any_iff s.desks fun d => d.config.enrols).2 ⟨d, enrols⟩
    simp only [held, Bool.not_true, Bool.false_eq_true, not_false_iff]
  rw [runStartFault_eq, if_neg (Nat.not_lt.2 length), if_neg (by rw [run]; decide), if_neg (by rw [run]; decide), if_neg blocks,
    if_neg (not_or.2 ⟨by rw [group]; decide, notBroadcast⟩), if_neg (by omega), if_neg (not_or.2 ⟨by omega, by rw [kinds]; decide⟩),
    if_neg someEnrols]

/-- R122: what steps 1 to 6 leave. -/
theorem State.beginRun_eq (s : State) (owner : MacAddr) (p : RunParams) :
    s.beginRun owner p = { s with
      run := .running false { params := p, owner := owner, start := s.now } (s.now + p.window * 60000)
      position := 0, exhausted := false, repairCount := 0, currentPass := 0, tail := s.fill, current := s.fill
      circuits := Vector.ofFn fun c => { s.circuits[c] with load := 0, gapTimer := none, decayTimer := some (s.now + p.decayInterval) }
      desks := Vector.ofFn fun d =>
        if (s.desks[d].config).enrols then { s.desks[d] with night := { Night.idle with state := .queued } } else s.desks[d]
      wakeQueue := s.wakeQueue ++ s.enrolledDesks
      noticeEnable := p.noticeEnable } := by
  simp only [State.beginRun, State.enrolledDesks, State.queueDesks_filter]
  rfl

/-- R122: a RUN START that fails no check. -/
theorem runStartRule_taken {r : ProtocolFrame} {s : State} (passes : runStartFault s (bodyOf r) = none) :
    runStartRule r s = State.answer (State.scanAndSettle s (s.beginRun r.src (takenParams (bodyOf r)))) r .runStart
      (if anyClamped (bodyOf r) then .clamped else .ok) ((takenParams (bodyOf r)).bytes ++ beBytes 1 s.enrolledDesks.length) := by
  simp only [runStartRule, passes]

/-- Settles O18: no check fails, and steps 1 to 6 are `State.beginRun_eq` on the state after the arrival is counted. -/
theorem runStartTaken : Obligations.RunStartTaken := by
  intro r s admits b enrols length run blocks group notBroadcast name marker action kinds enrolled p started s1
  have passes : runStartFault (s.count .upstreamIn) b = none :=
    runStartFault_none (s := s.count .upstreamIn) run length blocks group notBroadcast name marker action kinds enrolled
  have long : ReqKind.runStart.minBody ≤ r.bodyLen := by
    have body : b.length = r.bodyLen := admits.body_length
    simp only [ReqKind.minBody]; omega
  have taken : exec (.runStart r) s = .next (runStartRule r (s.count .upstreamIn)) := exec_admitted admits long
  rw [taken, runStartRule_taken passes, State.beginRun_eq]
  rfl

/-! ## RUN PAUSE and RUN RESUME -/

theorem DeskTimer.hold_eq (now : Nat) : DeskTimer.hold now = fun t => match t with
    | .running x => .held (x - now)
    | .held x => .held x := by
  funext t; cases t <;> rfl

theorem DeskTimer.release_eq (now : Nat) : DeskTimer.release now = fun t => match t with
    | .running x => .running x
    | .held x => .running (now + x) := by
  funext t; cases t <;> rfl

/-- R124: what a pause leaves. -/
theorem State.pauseRun_eq (s : State) (info : RunInfo) (deadline : Nat) :
    s.pauseRun info deadline = { s with
      run := .running true info deadline
      desks := Vector.ofFn fun d => { s.desks[d] with night := { s.desks[d].night with
        timer := s.desks[d].night.timer.map (DeskTimer.hold s.now) } }
      transmission := cutTransmission s.transmission } := by
  simp only [State.pauseRun, State.mapNight]

/-- R125: what a resumption leaves. -/
theorem State.resumeRun_eq (s : State) (info : RunInfo) (deadline : Nat) :
    s.resumeRun info deadline = { s with
      run := .running false info deadline
      desks := Vector.ofFn fun d => { s.desks[d] with night := { s.desks[d].night with
        timer := s.desks[d].night.timer.map (DeskTimer.release s.now) } }
      transmission := if s.roomLink then uncutTransmission s.transmission else s.transmission } := by
  simp only [State.resumeRun]
  rw [State.mapNight_roomLink]
  simp only [State.mapNight]

/-- Settles O20: each request is its rule's one equation in the run state that takes it. -/
theorem pauseHoldsAndResumeReleases : Obligations.PauseHoldsAndResumeReleases := by
  intro r s info deadline
  constructor
  · intro admits run
    have taken : exec (.runPause r) s = .next (runPauseRule r (s.count .upstreamIn)) := exec_admitted admits (Nat.zero_le _)
    have run1 : (s.count .upstreamIn).run = .running false info deadline := run
    rw [taken, runPauseRule]
    simp only [run1, State.pauseRun_eq, cutTransmission_eq, DeskTimer.hold_eq]
    rfl
  · intro admits run
    have taken : exec (.runResume r) s = .next (runResumeRule r (s.count .upstreamIn)) := exec_admitted admits (Nat.zero_le _)
    have run1 : (s.count .upstreamIn).run = .running true info deadline := run
    rw [taken, runResumeRule]
    simp only [run1, State.resumeRun_eq, uncutTransmission_eq, DeskTimer.release_eq]
    rfl

/-! ## The close -/

/-- R129: the records after a close. -/
theorem State.closeRun_desk (desk : Desk) :
    ({ desk with night := if desk.night.state.busy then desk.night.failed .runEnded else desk.night } : Desk) =
      if desk.night.state.busy then
        { desk with night := { desk.night with state := .failed, failCause := some .runEnded, timer := none, joinedPos := none } }
      else desk := by
  split <;> rfl

/-- R129: a close in ACTIVE or PAUSED, step by step. -/
theorem State.closeRun_running {s : State} {paused : Bool} {info : RunInfo} {deadline : Nat} (run : s.run = .running paused info deadline)
    (cause : CloseCause) :
    s.closeRun cause = State.raise
      { s with
        desks := Vector.ofFn fun d =>
          if s.desks[d].night.state.busy then
            { s.desks[d] with night :=
              { s.desks[d].night with state := .failed, failCause := some .runEnded, timer := none, joinedPos := none } }
          else s.desks[d]
        wakeQueue := []
        circuits := Vector.ofFn fun c => { s.circuits[c] with gapTimer := none, decayTimer := none }
        repairQueue := [], transmission := none, repairCount := 0, slots := Vector.replicate 64 .empty
        counters := (if s.anyFilling then s.count .discards else s).counters
        controlQueue := [], run := .closed info cause (deadline - s.now) }
      .runClosed (beBytes 1 cause.code) := by
  simp only [State.closeRun, run]
  refine congrArg (State.raise · _ _) ?_
  apply State.ext_fields
  case desks => simp only [State.clearRing_desks, State.mapNight_desks, State.closeRun_desk]
  case circuits => simp only [State.clearRing_circuits, State.mapNight_circuits, Circuit.stopped]
  case counters =>
    refine (State.clearRing_counters_congr ?_ ?_).trans (State.clearRing_counters s) <;> simp
  all_goals simp

/-- Settles O22: a stop and a window end are a close, whose steps are `State.closeRun_running`. -/
theorem stopAndWindowCloseTheRun : Obligations.StopAndWindowCloseTheRun := by
  refine ⟨fun s paused info deadline run => ⟨fun r admits => ?_, fun reached => ?_⟩,
    fun s cause paused info deadline run => State.closeRun_running run cause⟩
  · have taken : exec (.runStop r) s = .next (runStopRule r (s.count .upstreamIn)) := exec_admitted admits (Nat.zero_le _)
    have run1 : (s.count .upstreamIn).run = .running paused info deadline := run
    rw [taken, runStopRule]
    simp only [run1]
    rfl
  · change Host.Outcome.next (windowEndEvent s) = _
    simp only [windowEndEvent, run, if_pos reached]

/-! ## Events and what follows them -/

theorem EventKind.bit_code (j k : EventKind) : k.bit.getLsbD j.code = (j == k) := by
  cases j <;> cases k <;> decide

/-- R158: a raising sets its flag and no other. -/
theorem State.raise_flag (s : State) (k j : EventKind) (datum : List Byte) :
    (s.raise k datum).flags.getLsbD j.code = (s.flags.getLsbD j.code || j == k) := by
  rw [State.raise_eq]
  simp only [BitVec.getLsbD_or, EventKind.bit_code]

section
variable {s : State} {k : EventKind}

/-- R160: a kind outside the notice enable set. -/
theorem State.raise_silent (disabled : s.noticeEnable.getLsbD k.code = false) (datum : List Byte) :
    s.raise k datum = { s with flags := s.flags ||| k.bit } := by
  simp only [State.raise, State.sendNotice, EventSet.has, disabled, Bool.false_eq_true, if_false]

/-- R160: a kind in the notice enable set, with the run's owner known. -/
theorem State.raise_noticed (enabled : s.noticeEnable.getLsbD k.code = true) {info : RunInfo} (present : s.run.info? = some info)
    (datum : List Byte) :
    s.raise k datum =
      State.putReply { s with flags := s.flags ||| k.bit } (.notice info.owner info.params.runTag k (padTo 4 datum)) := by
  simp only [State.raise, State.sendNotice, EventSet.has, enabled, if_true, present]

end

theorem State.putReply_room {s : State} (room : s.replyQueue.length < 8) (f : ReplyFrame) :
    s.putReply f = { s with replyQueue := s.replyQueue ++ [f] } := if_pos room

theorem State.putReply_full {s : State} (full : 8 ≤ s.replyQueue.length) (f : ReplyFrame) :
    s.putReply f = s.count .managementDrops := if_neg (Nat.not_lt.2 full)

/-- The states in which a desk is not busy. -/
theorem DeskState.busy_eq_false_iff (x : DeskState) : x.busy = false ↔ x = .idle ∨ x = .complete ∨ x = .failed := by
  cases x <;> decide

/-- R128. -/
theorem State.allDone_iff (s : State) :
    s.allDone = true ↔ s.wakeQueue = [] ∧ ∀ d : DeskId, s.desks[d].night.state = .idle ∨ s.desks[d].night.state = .complete ∨
      s.desks[d].night.state = .failed := by
  have every : s.desks.toList.all (fun d => !d.night.state.busy) = true ↔ ∀ d : DeskId, s.desks[d].night.state.busy = false := by
    simp only [List.all_eq_true, Vector.mem_toList_iff, Vector.mem_iff_getElem, Bool.not_eq_true']
    exact ⟨fun h d => h _ ⟨d.val, d.isLt, rfl⟩, fun h x ⟨i, bound, at_i⟩ => at_i ▸ h ⟨i, bound⟩⟩
  simp only [State.allDone, Bool.and_eq_true, List.isEmpty_iff, every, DeskState.busy_eq_false_iff]

/-- R77: the comparison in ACTIVE and PAUSED. -/
theorem State.ringSpace_running {before : State} {paused : Bool} {info : RunInfo} {deadline : Nat}
    (run : before.run = .running paused info deadline) (s : State) :
    State.ringSpace before s =
      if before.emptySlots < info.params.lowWater ∧ info.params.lowWater ≤ s.emptySlots then s.raise .ringSpace (beBytes 1 s.emptySlots)
      else s := by
  simp only [State.ringSpace, run]

/-- R77: no comparison outside ACTIVE and PAUSED. -/
theorem State.ringSpace_notRunning {before : State} (run : before.run.inProgress = false) (s : State) : State.ringSpace before s = s := by
  unfold State.ringSpace
  split
  · next running => rw [running] at run; cases run
  · rfl

theorem Run.inProgress_running (paused : Bool) (info : RunInfo) (deadline : Nat) : (Run.running paused info deadline).inProgress = true := rfl

/-- R77, R128: the settlement is the comparison, then the evaluation when a desk finished. -/
theorem State.settle_done {before s : State} (run : s.run.inProgress = true) (done : s.allDone = true) :
    State.settle before s true = (State.ringSpace before s).closeRun .allDone := by
  have done1 : (State.ringSpace before s).allDone = true := by simpa [State.allDone] using done
  rw [State.settle, if_pos rfl, State.evaluateAllDone, State.ringSpace_run, run, done1]; rfl

theorem State.settle_notDone {before s : State} {finished : Bool} (h : finished = false ∨ s.allDone = false ∨ s.run.inProgress = false) :
    State.settle before s finished = State.ringSpace before s := by
  unfold State.settle
  split
  · next yes =>
    have stays : ((State.ringSpace before s).run.inProgress && (State.ringSpace before s).allDone) = false := by
      rcases h with no | notDone | notRunning
      · rw [no] at yes; cases yes
      · have notDone1 : (State.ringSpace before s).allDone = false := by simpa [State.allDone] using notDone
        rw [notDone1, Bool.and_false]
      · rw [State.ringSpace_run, notRunning, Bool.false_and]
    rw [State.evaluateAllDone, stays]; rfl
  · rfl

/-- Settles O37: a raising is its flag and a put at the reply queue; the settlement is the comparison of R77 and the evaluation of R128. -/
theorem eventsRaisedAndRunClosed : Obligations.EventsRaisedAndRunClosed := by
  refine ⟨fun s k datum info present => ⟨fun j => s.raise_flag k j datum, fun disabled => ?_, fun enabled room => ?_,
    fun enabled full => ?_⟩, ?settlement⟩
  · rw [State.raise_silent disabled]
  · rw [State.raise_noticed enabled present, State.putReply_room (s := { s with flags := s.flags ||| k.bit }) room]; rfl
  · rw [State.raise_noticed enabled present, State.putReply_full (s := { s with flags := s.flags ||| k.bit }) full]; rfl
  case settlement =>
    intro before s finished done
    have not_done (notDone : ¬ done) : s.allDone = false := Bool.eq_false_iff.2 (mt s.allDone_iff.1 notDone)
    refine ⟨?running, fun notRunning => ⟨?_, fun unfinished => ?_⟩⟩
    case running =>
      intro paused info deadline run ⟨p, run'⟩ free s1
      have s1_eq : State.ringSpace before s = s1 := State.ringSpace_running run s
      refine ⟨?_, fun unfinished => ?_⟩
      · rintro rfl all
        rw [State.settle_done (by rw [run']; rfl) (s.allDone_iff.2 all), s1_eq]
      · rw [State.settle_notDone (unfinished.imp id fun notDone => .inl (not_done notDone)), s1_eq]
    · rintro rfl all running
      rw [State.settle_done running (s.allDone_iff.2 all), State.ringSpace_notRunning notRunning]
    · rw [State.settle_notDone (unfinished.imp id (Or.imp not_done id)), State.ringSpace_notRunning notRunning]

/-! ## The ends of a desk -/

theorem beBytes_one (v : Nat) : beBytes 1 v = [BitVec.ofNat 8 v] := by
  simp only [beBytes, Nat.pow_zero, Nat.div_one]

theorem Slot.without_eq (d : DeskId) : Slot.without d = fun x => match x with
    | .sent h position firstSend waiting => .sent h position firstSend (waiting.filter (· != d))
    | other => other := by
  funext x; cases x <;> rfl

theorem vector_ofFn_map {α β : Type} {n : Nat} (f : α → β) (v : Vector α n) : (Vector.ofFn fun i : Fin n => f v[i]) = v.map f := by
  ext i h; simp

/-- R69: a desk's departure from the ring. -/
theorem State.leaveRing_map (s : State) (d : DeskId) :
    s.leaveRing d = State.retire { s with slots := s.slots.map fun x => match x with
      | .sent h position firstSend waiting => .sent h position firstSend (waiting.filter (· != d))
      | other => other } := by
  rw [State.leaveRing, vector_ofFn_map, Slot.without_eq]

theorem State.elapsed_eq {s : State} {info : RunInfo} (present : s.run.info? = some info) : s.elapsed = s.now - info.start := by
  simp only [State.elapsed, present]

/-- Settles O40: each end is its own definition, with the departure from the ring by `State.leaveRing_map`. -/
theorem deskFailsOrCompletes : Obligations.DeskFailsOrCompletes := by
  intro s d info present n leaves
  refine ⟨fun cause _ => ?_, ?_⟩
  · rw [State.failDesk, State.leaveRing_map, beBytes_one, beBytes_one]; rfl
  · rw [State.completeDesk, State.leaveRing_map, beBytes_one, State.elapsed_eq present]; rfl

/-! ## Commands without their event -/

theorem State.deskDue_eq_false {s : State} {d : DeskId} {x : DeskState}
    (idle : s.run.active = false ∨ s.desks[d].night.state ≠ x ∨
      ∀ deadline, s.desks[d].night.timer = some (.running deadline) → s.now < deadline) : s.deskDue d x = false := by
  unfold State.deskDue
  rcases idle with run | state | time
  · rw [run, Bool.false_and, Bool.false_and]
  · rw [beq_eq_false_iff_ne.2 state, Bool.and_false, Bool.false_and]
  · rw [Bool.and_eq_false_imp]
    intro _
    split
    · next t timer =>
      cases t with
      | running deadline => exact decide_eq_false (Nat.not_le.2 (time deadline timer))
      | held _ => rfl
    · rfl

/-- A desk's expiry command that is not due. -/
theorem exec_expiry_notDue {s : State} {d : DeskId} {x : DeskState} {c : Instr}
    (expiry : (x = .waking ∧ c = .wakeTimeoutExpiry d) ∨ (x = .awake ∧ c = .discoveryTimeoutExpiry d) ∨
      (x = .offered ∧ c = .joinTimeoutExpiry d) ∨ (x = .joined ∧ c = .silenceTimeoutExpiry d))
    (notDue : s.deskDue d x = false) : exec c s = .next s := by
  rcases expiry with ⟨rfl, rfl⟩ | ⟨rfl, rfl⟩ | ⟨rfl, rfl⟩ | ⟨rfl, rfl⟩
  · change Host.Outcome.next (wakeTimeoutEvent d s) = _
    unfold wakeTimeoutEvent
    split
    · rw [notDue]; rfl
    · rfl
  · change Host.Outcome.next (discoveryTimeoutEvent d s) = _
    rw [discoveryTimeoutEvent, notDue]; rfl
  · change Host.Outcome.next (joinTimeoutEvent d s) = _
    rw [joinTimeoutEvent, notDue]; rfl
  · change Host.Outcome.next (silenceTimeoutEvent d s) = _
    unfold silenceTimeoutEvent
    split
    · rw [notDue]; rfl
    · rfl

/-- A timer on the timebase that is absent or lies ahead. -/
theorem reached_eq_false {now : Nat} {timer : Option Nat} (ahead : timer = none ∨ ∃ t, timer = some t ∧ now < t) :
    reached now timer = false := by
  rcases ahead with rfl | ⟨t, rfl, later⟩
  · rfl
  · exact decide_eq_false (Nat.not_le.2 later)

/-- Settles O39: each event's own test fails, and the state is left. -/
theorem commandsWithoutTheirEvent : Obligations.CommandsWithoutTheirEvent := by
  refine ⟨fun s d x c expiry idle => exec_expiry_notDue expiry (State.deskDue_eq_false idle), fun s c => ⟨fun idle => ?_, fun idle => ?_⟩,
    fun s idle => ?_⟩
  · change Host.Outcome.next (decayStepEvent c s) = _
    unfold decayStepEvent
    split
    · next paused info deadline t run timer =>
      rcases idle with notRunning | absent | ⟨t', present, later⟩
      · rw [run] at notRunning; cases notRunning
      · rw [absent] at timer; cases timer
      · cases present.symm.trans timer
        rw [if_neg (Nat.not_le.2 later)]
    · rfl
  · have notDue : (s.run.inProgress && reached s.now (s.circuits[c]).gapTimer) = false := by
      rcases idle with notRunning | ahead
      · rw [notRunning, Bool.false_and]
      · exact (congrArg _ (reached_eq_false ahead)).trans (Bool.and_false _)
    change Host.Outcome.next (gapExpiryEvent c s) = _
    rw [gapExpiryEvent, notDue]; rfl
  · change Host.Outcome.next (windowEndEvent s) = _
    unfold windowEndEvent
    rcases idle with notRunning | ⟨paused, info, deadline, run, later⟩
    · split
      · next run => rw [run] at notRunning; cases notRunning
      · rfl
    · simp only [run, if_neg (Nat.not_le.2 later)]

end Sys2Proof.Machine
end

section
/-! SUPPORT. The Block Ring (04_the_block_ring.md): what block memory reads after a write (R64), the taking of a fragment and the check of a
block (R64, R65), the retirement check (R70), the checks and steps of BLOCK OPEN (R62, R72, R73), and the statements O24, O25, O27, O28 and O30. -/

namespace Sys2Proof.Machine

/-! ## Block memory -/

/-- The byte that the first cell of an address holds, and else the unwritten byte. -/
def cellByte (c : Option Host.Cell) : Byte := (c.map Prod.snd).getD unwrittenByte

theorem memByte_eq (m : Memory) (x : Nat) : memByte m x = cellByte (m.find? fun c => c.1 = x) := by
  unfold memByte cellByte; cases m.find? fun c => c.1 = x <;> rfl

theorem find_of_addresses {m : Memory} {x : Nat} (h : ∀ c ∈ m, c.1 ≠ x) : (m.find? fun c => c.1 = x) = none := by
  simpa [List.find?_eq_none] using h

/-- A filter that keeps an address keeps what is read there. -/
theorem find_filter_of_imp (m : Memory) {x : Nat} {p : Host.Cell → Bool} (keeps : ∀ c : Host.Cell, c.1 = x → p c = true) :
    ((m.filter p).find? fun c => c.1 = x) = m.find? fun c => c.1 = x := by
  rw [List.find?_filter]
  refine congrArg (List.find? · m) (funext fun c => ?_)
  by_cases at_x : c.1 = x <;> simp [at_x, keeps]

/-- The cells of some bytes read as those bytes. -/
theorem cellsFrom_find {x : Nat} (inside : x < Config.slotBytes) (a : Nat) (data : List Byte) (low : a ≤ x) :
    cellByte ((cellsFrom a data).find? fun c => c.1 = x) = data.getD (x - a) 0 := by
  induction data generalizing a with
  | nil => rfl
  | cons b t ih =>
    rcases Nat.eq_or_lt_of_le low with rfl | above
    · have rest : ((cellsFrom (a + 1) t).find? fun c => c.1 = a) = none :=
        find_of_addresses fun c mem => by have := mem_cellsFrom mem; omega
      rw [cellsFrom, Nat.sub_self]
      split
      · simp [cellByte]
      · next skipped =>
        have zero : b = 0 := by
          simp only [Bool.and_eq_true, bne_iff_ne, decide_eq_true_eq, not_and, ne_eq] at skipped
          by_contra other
          exact skipped other inside
        rw [rest, zero]; rfl
    · have next : x - a = x - (a + 1) + 1 := by omega
      rw [next, List.getD_cons_succ, ← ih (a + 1) above, cellsFrom]
      split
      · rw [List.find?_cons_of_neg (by simpa using Nat.ne_of_lt above)]
      · rfl

/-- Settles O28: of the three parts of the memory written, exactly one can hold the address read. -/
theorem blockMemoryReadsBack : Obligations.BlockMemoryReadsBack := by
  intro m a data x inside
  rw [memByte_eq, memByte_eq, memWrite, List.find?_append, List.find?_append]
  have below (h : a ≤ x) : ((m.filter fun c => c.1 < a).find? fun c => c.1 = x) = none :=
    find_of_addresses fun c mem => by have := (List.mem_filter.1 mem).2; simp only [decide_eq_true_eq] at this; omega
  have above (h : x < a + data.length) : ((m.filter fun c => a + data.length ≤ c.1).find? fun c => c.1 = x) = none :=
    find_of_addresses fun c mem => by have := (List.mem_filter.1 mem).2; simp only [decide_eq_true_eq] at this; omega
  have written (h : ¬ (a ≤ x ∧ x < a + data.length)) : ((cellsFrom a data).find? fun c => c.1 = x) = none :=
    find_of_addresses fun c mem => by have := mem_cellsFrom mem; omega
  split
  · next inData =>
    rw [below inData.1, above inData.2, Option.none_or, Option.or_none, cellsFrom_find inside a data inData.1]
  · next outside =>
    rw [written outside, Option.or_none]
    rcases Nat.lt_or_ge x a with low | high
    · rw [find_filter_of_imp m (fun c at_x => by simpa [at_x] using low), above (by omega), Option.or_none]
    · rw [below high, Option.none_or, find_filter_of_imp m (fun c at_x => by simp only [at_x, decide_eq_true_eq]; omega)]

/-! ## A fragment taken -/

/-- R64: a fragment map with one index added lacks nothing more than the others. -/
theorem mapComplete_set_iff (map : Vector Bool 8) (i : Fin 8) (k : Nat) :
    mapComplete (map.set i true) k = true ↔ ∀ j : Fin 8, j ≠ i → j.val < k → map[j] = true := by
  simp only [mapComplete, List.all_eq_true, List.mem_finRange, forall_const, Bool.or_eq_true, decide_eq_true_eq, vector_set_get]
  refine forall_congr' fun j => ?_
  by_cases same : i = j
  · simp [same]
  · rw [if_neg same]
    exact ⟨fun h _ less => h.resolve_left (Nat.not_le.2 less), fun h => (Nat.lt_or_ge j.val k).symm.imp id (h (Ne.symm same))⟩

section
variable {s : State} {h : BlockHeader} {map : Vector Bool 8} {i : Fin 8}

theorem State.takeFragment_duplicate (received : map[i] = true) (data : List Byte) :
    s.takeFragment h map i data = (s.count .duplicateFragments, none) := by
  simp only [State.takeFragment, received, if_true]

variable (missing : map[i] = false) (data : List Byte)
include missing

/-- R64: a fragment that leaves the block incomplete. -/
theorem State.takeFragment_partial (incomplete : mapComplete (map.set i true) (fragmentCount h.length) = false) :
    s.takeFragment h map i data =
      ({ s with
          blockMem := s.blockMem.set s.fill (memWrite s.blockMem[s.fill] (1024 * i.val) data)
          slots := s.slots.set s.fill (.filling h (map.set i true)) }, none) := by
  simp only [State.takeFragment, missing, Bool.false_eq_true, if_false, incomplete, Config.fragmentBytes]

/-- R64: a fragment that completes the block has it checked. -/
theorem State.takeFragment_complete (complete : mapComplete (map.set i true) (fragmentCount h.length) = true) :
    s.takeFragment h map i data =
      State.checkBlock { s with
        blockMem := s.blockMem.set s.fill (memWrite s.blockMem[s.fill] (1024 * i.val) data)
        slots := s.slots.set s.fill (.filling h (map.set i true)) } h := by
  simp only [State.takeFragment, missing, Bool.false_eq_true, if_false, complete, if_true, Config.fragmentBytes]

end

/-- R65: the check of a block whose last fragment has just been written. -/
theorem State.checkBlock_written (s : State) (h : BlockHeader) (memory : Memory) (last : Slot) :
    State.checkBlock { s with blockMem := s.blockMem.set s.fill memory, slots := s.slots.set s.fill last } h =
      if crc32 (memRead memory 0 h.length) = h.check then
        (State.count { s with
          blockMem := s.blockMem.set s.fill memory, slots := s.slots.set s.fill (.ready h), fill := s.fill + 1 } .blocksCompleted,
          some (.ok, blockAnswer s.fill { s with slots := s.slots.set s.fill (.ready h) }))
      else
        (State.count { s with blockMem := s.blockMem.set s.fill memory, slots := s.slots.set s.fill .empty } .checkFailures,
          some (.badCheck, blockAnswer s.fill { s with slots := s.slots.set s.fill .empty })) := by
  have read : (s.blockMem.set s.fill memory)[s.fill] = memory := by rw [vector_set_get, if_pos rfl]
  simp only [State.checkBlock, read, Vector.set_set]
  rfl

/-- Settles O27: the fragment map decides between the three outcomes of `State.takeFragment`, and the check word between the two of
`State.checkBlock`. -/
theorem fragmentTakenAndBlockChecked : Obligations.FragmentTakenAndBlockChecked := by
  intro s h map i data
  refine ⟨fun received => State.takeFragment_duplicate received data, ?_⟩
  intro missing memory s1
  refine ⟨fun ⟨j, other, index, lacks⟩ => ?_, fun rest => ?_⟩
  · refine State.takeFragment_partial missing data (Bool.eq_false_iff.2 fun complete => ?_)
    exact absurd ((mapComplete_set_iff map i _).1 complete j other index) (by rw [lacks]; exact Bool.false_ne_true)
  · rw [State.takeFragment_complete missing data ((mapComplete_set_iff map i _).2 rest), State.checkBlock_written]
    exact ⟨fun agrees => if_pos agrees, fun differs => if_neg differs⟩

/-! ## Places of the ring -/

/-- The places counted from a slot onward: the next place's successors. -/
theorem ring_succ (t : SlotId) (k : Nat) : t + 1 + Fin.ofNat 64 k = t + Fin.ofNat 64 (k + 1) := by
  apply Fin.ext; simp only [Fin.val_add, Fin.ofNat_eq_cast, Fin.val_natCast]; omega

theorem ring_zero (t : SlotId) : t + Fin.ofNat 64 0 = t := by
  apply Fin.ext; simp only [Fin.val_add, Fin.ofNat_eq_cast, Fin.val_natCast]; omega

/-- Fewer than 64 places on from a slot, each place is another. -/
theorem ring_inj {t : SlotId} {j k : Nat} (hj : j < 64) (hk : k < 64) : t + Fin.ofNat 64 j = t + Fin.ofNat 64 k ↔ j = k := by
  rw [Fin.ext_iff]; simp only [Fin.val_add, Fin.ofNat_eq_cast, Fin.val_natCast]; omega

theorem ring_eq_self {t : SlotId} {k : Nat} (hk : k < 64) : t = t + Fin.ofNat 64 k ↔ k = 0 := by
  rw [Fin.ext_iff]; simp only [Fin.val_add, Fin.ofNat_eq_cast, Fin.val_natCast]; omega

/-- The 64th place on from a slot is the slot itself. -/
theorem ring_wraps (t : SlotId) : t + Fin.ofNat 64 (63 + 1) = t := by
  apply Fin.ext; simp only [Fin.val_add, Fin.ofNat_eq_cast, Fin.val_natCast]; omega

/-- Every slot is one of the 64 places from a slot onward. -/
theorem ring_surj (t i : SlotId) : ∃ k < 64, i = t + Fin.ofNat 64 k := by
  refine ⟨(i.val + 64 - t.val) % 64, Nat.mod_lt _ (by decide), ?_⟩
  apply Fin.ext; simp only [Fin.val_add, Fin.ofNat_eq_cast, Fin.val_natCast]; omega

/-! ## Retirement -/

/-- R70: a slot that the retirement check empties when it is the tail. -/
def State.Retirable (s : State) (i : SlotId) : Prop :=
  match s.slots[i] with
  | .sent _ _ _ waiting => waiting = [] ∧ i ∉ s.repairQueue ∧ ∀ t, s.transmission = some t → t.slot ≠ i
  | _ => False

theorem State.inTransmission_eq_false_iff (s : State) (i : SlotId) :
    s.inTransmission i = false ↔ ∀ t, s.transmission = some t → t.slot ≠ i := by
  unfold State.inTransmission
  split
  · next t sending => simp [sending]
  · next idle => simp [idle]

theorem State.tailRetirable_iff (s : State) : s.tailRetirable = true ↔ s.Retirable s.tail := by
  cases slot : s.slots[s.tail] <;>
    simp only [State.tailRetirable, State.Retirable, slot, State.repairQueued, Bool.and_eq_true, Bool.not_eq_true', List.isEmpty_iff,
      State.inTransmission_eq_false_iff, List.contains_eq_mem, decide_eq_false_iff_not, and_assoc, Bool.false_eq_true]

/-- R70: retirability reads a slot, the Repair Queue and the transmission. -/
theorem State.retirable_congr {s t : State} {i : SlotId} (slot : t.slots[i] = s.slots[i]) (repairs : t.repairQueue = s.repairQueue)
    (sending : t.transmission = s.transmission) : t.Retirable i ↔ s.Retirable i := by
  simp only [State.Retirable, slot, repairs, sending]

/-- The other slots after the tail is emptied. -/
theorem State.dropTail_slots (s : State) (i : SlotId) : s.dropTail.slots[i] = if s.tail = i then .empty else s.slots[i] := by
  simp only [State.dropTail, vector_set_get]

/-- R70: at most n repetitions empty the first k places from the tail, those that can be retired, and stop at the next. -/
theorem State.retireUpTo_spec (n : Nat) (bound : n ≤ 64) (s : State) :
    ∃ k ≤ n, (∀ j < k, s.Retirable (s.tail + Fin.ofNat 64 j)) ∧ (State.retireUpTo n s).tail = s.tail + Fin.ofNat 64 k ∧
      (∀ j < 64, (State.retireUpTo n s).slots[s.tail + Fin.ofNat 64 j] =
        if j < k then .empty else s.slots[s.tail + Fin.ofNat 64 j]) ∧
      (k < n → ¬ s.Retirable (s.tail + Fin.ofNat 64 k)) := by
  induction n generalizing s with
  | zero =>
    exact ⟨0, Nat.le_refl 0, fun j low => absurd low (Nat.not_lt_zero j), (ring_zero s.tail).symm, fun j _ => rfl,
      fun low => absurd low (Nat.lt_irrefl 0)⟩
  | succ n ih =>
    rw [State.retireUpTo]
    split
    · next fit =>
      obtain ⟨k, low, each, tail, slots, stop⟩ := ih (Nat.le_of_succ_le bound) s.dropTail
      have tail_next : s.dropTail.tail = s.tail + 1 := rfl
      rw [tail_next] at tail
      simp only [tail_next, ring_succ] at each slots stop tail
      have other {j : Nat} (h : j < 63) : s.dropTail.slots[s.tail + Fin.ofNat 64 (j + 1)] = s.slots[s.tail + Fin.ofNat 64 (j + 1)] := by
        refine (s.dropTail_slots _).trans (if_neg fun same => ?_)
        rw [ring_eq_self (by omega)] at same
        omega
      refine ⟨k + 1, Nat.succ_le_succ low, fun j less => ?_, tail, fun j less => ?_, fun more => ?_⟩
      · cases j with
        | zero => rw [ring_zero]; exact s.tailRetirable_iff.1 fit
        | succ j => exact (State.retirable_congr (other (by omega)) rfl rfl).1 (each j (by omega))
      · cases j with
        | zero =>
          have wrapped := slots 63 (by decide)
          simp only [ring_wraps, if_neg (show ¬ 63 < k by omega), State.dropTail_slots, if_true] at wrapped
          simp only [ring_zero, wrapped, Nat.succ_pos, if_true]
        | succ j =>
          rw [slots j (by omega), other (by omega)]
          simp only [Nat.add_lt_add_iff_right]
      · exact mt (State.retirable_congr (other (by omega)) rfl rfl).2 (stop (by omega))
    · next unfit =>
      refine ⟨0, Nat.zero_le _, fun j low => absurd low (Nat.not_lt_zero j), (ring_zero s.tail).symm, fun j _ => rfl, fun _ => ?_⟩
      rwa [ring_zero, ← State.tailRetirable_iff]

/-- R70: what keeps a slot from retirement. -/
theorem State.not_retirable_iff (s : State) (i : SlotId) :
    ¬ s.Retirable i ↔ match s.slots[i] with
      | .sent _ _ _ waiting => waiting ≠ [] ∨ i ∈ s.repairQueue ∨ ∃ t, s.transmission = some t ∧ t.slot = i
      | _ => True := by
  unfold State.Retirable
  cases s.slots[i] <;> simp only [not_and_or, not_not, not_forall, ne_eq, not_false_eq_true, exists_prop]

/-- Settles O30: `State.retireUpTo_spec` for the ring's 64 slots. -/
theorem retirementStopsAtFirstHeld : Obligations.RetirementStopsAtFirstHeld := by
  intro s
  obtain ⟨k, low, each, tail, slots, stop⟩ := State.retireUpTo_spec 64 (Nat.le_refl 64) s
  refine ⟨k, low, each, tail, slots, fun more => ?_, s.retire_eq⟩
  have held := (s.not_retirable_iff _).1 (stop more)
  cases slot : s.slots[s.tail + Fin.ofNat 64 k] <;> simp only [slot] at held ⊢
  exact held

/-! ## BLOCK OPEN -/

/-- R62, checks 6 and 7, on a fragment of a block: the data length that the index requires. -/
theorem fragmentFault_eq (length i dataLength : Nat) :
    fragmentFault length i dataLength =
      if (length + 1023) / 1024 ≤ i then some .badFormat
      else if dataLength ≠ (if i + 1 < (length + 1023) / 1024 then 1024 else length - 1024 * i) then some .badLength
      else none := by
  unfold fragmentFault
  change (if (length + 1023) / 1024 ≤ i then _ else _) = _
  by_cases beyond : (length + 1023) / 1024 ≤ i
  · rw [if_pos beyond, if_pos beyond]
  · have required : fragmentLength length i = if i + 1 < (length + 1023) / 1024 then 1024 else length - 1024 * i := by
      change (if i + 1 < (length + 1023) / 1024 then 1024 else length - 1024 * ((length + 1023) / 1024 - 1)) = _
      split
      · rfl
      · next last =>
        have place : (length + 1023) / 1024 - 1 = i := by omega
        rw [place]
    rw [if_neg beyond, if_neg beyond, required]

section
variable {r : ProtocolFrame} {s : State} {paused : Bool} {info : RunInfo} {deadline : Nat}
  (long : 12 ≤ (bodyOf r).length)
include long

/-- R62, check 2: BLOCK OPEN outside ACTIVE and PAUSED. -/
theorem blockOpenRule_wrongState (run : s.run.inProgress = false) : blockOpenRule r s = s.refuse r .blockOpen .wrongState := by
  unfold blockOpenRule
  rw [if_neg (Nat.not_lt.2 long)]
  split
  · next running => rw [running] at run; cases run
  · rfl

variable (run : s.run = .running paused info deadline)
include run

/-- R62, checks 3 to 7. -/
theorem blockOpenRule_refused {status : Status}
    (fault : blockOpenFault s info (parseBlockHeader (bodyOf r)) (byteAt (bodyOf r) 11).toNat ((bodyOf r).length - 12) = some status) :
    blockOpenRule r s = s.refuse r .blockOpen status := by
  simp only [blockOpenRule, if_neg (Nat.not_lt.2 long), run, fault]

/-- R62: a BLOCK OPEN that passes its checks. -/
theorem blockOpenRule_taken {i : Fin 8} (index : i.val = (byteAt (bodyOf r) 11).toNat)
    (passes : blockOpenFault s info (parseBlockHeader (bodyOf r)) (byteAt (bodyOf r) 11).toNat ((bodyOf r).length - 12) = none) :
    blockOpenRule r s = ringAnswer s r .blockOpen (s.openBlock info (parseBlockHeader (bodyOf r)) i ((bodyOf r).drop 12)) := by
  simp only [blockOpenRule, if_neg (Nat.not_lt.2 long), run, passes, fragmentOf_val index]

end

/-- R62: checks 3 to 7, in the statement's words. -/
theorem blockOpenFault_eq (s : State) (info : RunInfo) (h : BlockHeader) (i dataLength : Nat) :
    blockOpenFault s info h i dataLength =
      if info.params.blockCount ≤ h.sequence then some .badIndex
      else if h.length = 0 ∨ 8192 < h.length then some .badLength
      else if h.pass < s.currentPass then some .stalePass
      else if (h.length + 1023) / 1024 ≤ i then some .badFormat
      else if dataLength ≠ (if i + 1 < (h.length + 1023) / 1024 then 1024 else h.length - 1024 * i) then some .badLength
      else none := by
  rw [blockOpenFault, fragmentFault_eq]; rfl

/-- R62: no check fails. -/
theorem blockOpenFault_none {s : State} {info : RunInfo} {h : BlockHeader} {i dataLength : Nat}
    (sequence : h.sequence < info.params.blockCount) (notEmpty : 1 ≤ h.length) (fits : h.length ≤ 8192) (pass : s.currentPass ≤ h.pass)
    (index : i < fragmentCount h.length) (data : dataLength = fragmentLength h.length i) : blockOpenFault s info h i dataLength = none := by
  have length : ¬ (h.length = 0 ∨ Config.slotBytes < h.length) := by simp only [Config.slotBytes]; omega
  rw [blockOpenFault, if_neg (Nat.not_le.2 sequence), if_neg length, if_neg (Nat.not_lt.2 pass), fragmentFault_none index data]

/-- Settles O24: the checks are the rule's own length test, the run state and `blockOpenFault_eq`. -/
theorem blockOpenRefused : Obligations.BlockOpenRefused := by
  intro r s status admits b h i fails
  by_cases short : r.bodyLen < 12
  · rw [if_pos short] at fails
    obtain rfl := Option.some.inj fails
    exact exec_admitted_short admits short
  · rw [if_neg short] at fails
    have body : b.length = r.bodyLen := admits.body_length
    have long : 12 ≤ b.length := by omega
    refine (exec_admitted admits (Nat.not_lt.1 short)).trans (congrArg Host.Outcome.next ?_)
    change blockOpenRule r (s.count .upstreamIn) = (s.count .upstreamIn).refuse r .blockOpen status
    cases run : s.run with
    | running paused info deadline =>
      simp only [run] at fails
      have fault : blockOpenFault (s.count .upstreamIn) info h i (b.length - 12) = some status := by
        rw [blockOpenFault_eq, body]; exact fails
      exact blockOpenRule_refused long (s := s.count .upstreamIn) run fault
    | standby =>
      simp only [run] at fails
      obtain rfl := Option.some.inj fails
      exact blockOpenRule_wrongState long (s := s.count .upstreamIn) (by simp [run, Run.inProgress])
    | closed info cause left =>
      simp only [run] at fails
      obtain rfl := Option.some.inj fails
      exact blockOpenRule_wrongState long (s := s.count .upstreamIn) (by simp [run, Run.inProgress])

/-- R66: the discard before a BLOCK OPEN seeks its slot. -/
theorem State.discardFilling_map (s : State) :
    s.discardFilling =
      if s.anyFilling then State.count { s with slots := s.slots.map fun x => if x.isFilling then .empty else x } .discards else s := by
  rw [State.discardFilling, vector_ofFn_map fun x : Slot => if x.isFilling then Slot.empty else x]

theorem State.discardFilling_of_none {s : State} (none_filling : s.anyFilling = false) : s.discardFilling = s := by
  rw [State.discardFilling, none_filling]; rfl

/-- R62, R72: the slot sought is found without a change of fill or of the pass. -/
theorem State.seekSlot_keeps {s s2 : State} {info : RunInfo} (found : s.seekSlot info = some s2) :
    s2.fill = s.fill ∧ s2.currentPass = s.currentPass := by
  unfold State.seekSlot State.lagRule at found
  split at found
  · cases found; exact ⟨rfl, rfl⟩
  · split at found
    · split at found
      · cases found; rw [State.forceTail_eq]; exact ⟨rfl, rfl⟩
      · cases found
    · cases found

/-- R62, steps 3 to 5: what a BLOCK OPEN does in a slot found. -/
theorem State.openBlock_found {s s2 : State} {info : RunInfo} (found : s.discardFilling.seekSlot info = some s2) (h : BlockHeader)
    (i : Fin 8) (data : List Byte) :
    s.openBlock info h i data =
      State.takeFragment
        (if s.currentPass < h.pass then
          State.raise { s2 with slots := s2.slots.set s.fill (.filling h (Vector.replicate 8 false)), currentPass := h.pass } .passBegin
            (beBytes 1 h.pass)
        else { s2 with slots := s2.slots.set s.fill (.filling h (Vector.replicate 8 false)) })
        h (Vector.replicate 8 false) i data := by
  obtain ⟨fill, pass⟩ := State.seekSlot_keeps found
  rw [State.discardFilling_fill] at fill
  rw [State.discardFilling_currentPass] at pass
  simp only [State.openBlock, found, State.beginPass, fill, pass]

/-- R62, R72: no slot is found. -/
theorem State.openBlock_full {s : State} {info : RunInfo} (full : s.discardFilling.seekSlot info = none) (h : BlockHeader)
    (i : Fin 8) (data : List Byte) : s.openBlock info h i data = (s.discardFilling, some (.ringFull, [])) := by
  simp only [State.openBlock, full]

/-- R72: when the lag rule frees the tail. -/
def State.LagFrees (s : State) (info : RunInfo) (x : Slot) : Bool :=
  match x with
  | .sent _ _ firstSend _ => s.transmission.all (fun t => t.slot != s.tail) && decide (info.params.lagLimit ≤ s.now - firstSend)
  | _ => false

theorem State.not_inTransmission (s : State) (i : SlotId) : (!s.inTransmission i) = s.transmission.all fun t => t.slot != i := by
  unfold State.inTransmission
  cases s.transmission <;> rfl

theorem State.lagRule_none {s : State} {info : RunInfo} (keeps : s.LagFrees info s.slots[s.tail] = false) : s.lagRule info = none := by
  unfold State.lagRule State.LagFrees at *
  cases slot : s.slots[s.tail] <;> simp only [slot] at keeps ⊢
  rw [State.not_inTransmission, keeps]; rfl

theorem State.lagRule_some {s : State} {info : RunInfo} {h : BlockHeader} {position firstSend : Nat} {waiting : List DeskId}
    (slot : s.slots[s.tail] = .sent h position firstSend waiting) (frees : s.LagFrees info s.slots[s.tail] = true) :
    s.lagRule info = some (s.forceTail h.sequence waiting) := by
  rw [slot] at frees
  simp only [State.lagRule, slot, State.not_inTransmission]
  exact if_pos frees

/-- R73: what a forced retirement leaves before the retirement check. -/
theorem State.forceTail_of_info {s : State} {info : RunInfo} (present : s.run.info? = some info) (sequence : Nat) (waiting : List DeskId) :
    s.forceTail sequence waiting = State.retire { s with
      desks := Vector.ofFn fun d => if waiting.contains d then
        { s.desks[d] with night := { s.desks[d].night with lagCount := min (s.desks[d].night.lagCount + 1) 255 } } else s.desks[d]
      wanted := insertRange info.params.blockCount s.wanted sequence 1
      repairQueue := s.repairQueue.filter (· != s.tail)
      slots := s.slots.set s.tail .empty, tail := s.tail + 1 } := by
  have desk (d : DeskId) :
      ({ s.desks[d] with night := if waiting.contains d then s.desks[d].night.lagged else s.desks[d].night } : Desk) =
        if waiting.contains d then
          { s.desks[d] with night := { s.desks[d].night with lagCount := min (s.desks[d].night.lagCount + 1) 255 } } else s.desks[d] := by
    split <;> rfl
  rw [State.forceTail]
  refine congrArg State.retire ?_
  rw [State.insertWanted_of_info (info := info) (by rw [State.mapNight_run]; exact present)]
  simp only [State.dropTail, State.mapNight, desk]

section
variable {r : ProtocolFrame} {s : State} {paused : Bool} {info : RunInfo} {deadline : Nat} {i : Fin 8}
  (admits : s.Admits .blockOpen r) (long : 12 ≤ r.bodyLen) (run : s.run = .running paused info deadline)
  (sequence : (parseBlockHeader (bodyOf r)).sequence < info.params.blockCount) (notEmpty : 1 ≤ (parseBlockHeader (bodyOf r)).length)
  (fits : (parseBlockHeader (bodyOf r)).length ≤ 8192) (pass : s.currentPass ≤ (parseBlockHeader (bodyOf r)).pass)
  (index : (byteAt (bodyOf r) 11).toNat = i.val) (within : i.val < fragmentCount (parseBlockHeader (bodyOf r)).length)
  (data : r.bodyLen - 12 = fragmentLength (parseBlockHeader (bodyOf r)).length i.val)
include admits long run sequence notEmpty fits pass index within data

/-- R62: an admitted BLOCK OPEN that passes its checks reaches its steps. -/
theorem exec_blockOpen_taken :
    exec (.blockOpen r) s = .next (ringAnswer (s.count .upstreamIn) r .blockOpen
      ((s.count .upstreamIn).openBlock info (parseBlockHeader (bodyOf r)) i ((bodyOf r).drop 12))) := by
  have body : (bodyOf r).length = r.bodyLen := admits.body_length
  refine (exec_admitted admits long).trans (congrArg _ ?_)
  refine blockOpenRule_taken (by omega) (s := s.count .upstreamIn) run index.symm ?_
  exact blockOpenFault_none (s := s.count .upstreamIn) sequence notEmpty fits pass (index ▸ within) (by rw [body, index]; exact data)

end

/-- Settles O25: the slot that `State.seekSlot` finds after the discard decides between the steps of `State.openBlock_found` and RING_FULL. -/
theorem blockOpenTakesSlot : Obligations.BlockOpenTakesSlot := by
  constructor
  · intro r s paused info deadline i admits long run b h sequence notEmpty fits pass index within data s1 s2 free map s3 s4
    have discarded : s1.discardFilling = s2 := s1.discardFilling_map
    have found : s1.discardFilling.seekSlot info = some s2 := by rw [discarded]; exact if_pos free
    rw [exec_blockOpen_taken admits long run sequence notEmpty fits pass index within data, State.openBlock_found found]
    rfl
  · intro r s paused info deadline i admits long run b h sequence notEmpty fits pass index within data full none_filling s1 frees
    have discarded : s1.discardFilling = s1 := State.discardFilling_of_none none_filling
    have seek : s1.discardFilling.seekSlot info = s1.lagRule info := by
      have occupied : ¬ s1.occupancy < Config.ringSlots := Nat.not_lt.2 (Nat.le_of_eq full.symm)
      rw [discarded, State.seekSlot, if_neg occupied]
    have frees_eq : frees = s1.LagFrees info := by funext x; cases x <;> rfl
    have taken := exec_blockOpen_taken admits long run sequence notEmpty fits pass index within data
    refine ⟨fun keeps => ?_, ?_⟩
    · rw [frees_eq] at keeps
      rw [taken, State.openBlock_full (seek.trans (State.lagRule_none (s := s1) keeps)), discarded]
      exact congrArg (fun t => Host.Outcome.next (State.answer t r .blockOpen .ringFull [])) (State.ringSpace_of_slots (before := s1) rfl)
    · intro g position firstSend waiting slot frees_tail map s2 s3 s4
      rw [frees_eq] at frees_tail
      have present : s1.run.info? = some info := congrArg Run.info? run
      have forced : s1.lagRule info = some s2 :=
        (State.lagRule_some (s := s1) slot frees_tail).trans (congrArg some (State.forceTail_of_info present g.sequence waiting))
      rw [taken, State.openBlock_found (seek.trans forced)]
      rfl

end Sys2Proof.Machine
end

section
/-! SUPPORT. The Wanted List (06_desk_reports_and_the_wanted_list.md): the form of a list as a statement of its ranges (R113), what the merge of
an insertion covers (R114), the pair that an overflow merges (R115), and the statement O31. -/

namespace Sys2Proof.Machine

/-! ## The form -/

/-- A block is covered by a list of ranges. -/
def Covers (l : List Range) (x : Nat) : Prop := ∃ r ∈ l, r.first ≤ x ∧ x < r.first + r.count

/-- R113: the form, as a statement of each range and of each two. -/
theorem rangesGood_iff (n : Nat) (l : List Range) :
    RangesGood n l ↔ (∀ r ∈ l, 0 < r.count ∧ r.stop ≤ n) ∧ l.Pairwise fun a b => a.stop < b.first := by
  induction l with
  | nil => simp [RangesGood]
  | cons a t ih =>
    cases t with
    | nil => simp [RangesGood]
    | cons b t =>
      rw [RangesGood, ih]
      simp only [List.forall_mem_cons, List.pairwise_cons]
      constructor
      · rintro ⟨count, apart, ⟨⟨hb, hn⟩, each⟩, after, rest⟩
        have hb' : b.first < b.stop := by unfold Range.stop; omega
        exact ⟨⟨⟨count, by omega⟩, ⟨hb, hn⟩, each⟩, ⟨apart, fun c mem => by have := after c mem; omega⟩, after, rest⟩
      · rintro ⟨⟨⟨count, -⟩, hb, each⟩, ⟨apart, -⟩, after, rest⟩
        exact ⟨count, apart, ⟨hb, each⟩, after, rest⟩

/-- R113: of two ranges of a list in its form, one lies wholly below the other. -/
theorem RangesGood.apart {n : Nat} {l : List Range} (good : RangesGood n l) {a b : Range} (ha : a ∈ l) (hb : b ∈ l) :
    a = b ∨ a.stop < b.first ∨ b.stop < a.first := by
  have pairs := ((rangesGood_iff n l).1 good).2
  exact List.Pairwise.forall_of_forall_of_flip (R := fun a b : Range => a = b ∨ a.stop < b.first ∨ b.stop < a.first)
    (fun x _ => .inl rfl) (pairs.imp fun h => .inr (.inl h)) (pairs.imp fun h => .inr (.inr h)) ha hb

theorem RangesGood.first_lt_stop {n : Nat} {l : List Range} (good : RangesGood n l) {a : Range} (ha : a ∈ l) : a.first < a.stop := by
  have := (((rangesGood_iff n l).1 good).1 a ha).1
  unfold Range.stop; omega

/-! ## The merge of an insertion -/

/-- The least of a start and the first blocks of some ranges. -/
theorem foldl_min_first (l : List Range) (f : Nat) :
    l.foldl (fun a r => min a r.first) f ≤ f ∧ (∀ r ∈ l, l.foldl (fun a r => min a r.first) f ≤ r.first) ∧
      (l.foldl (fun a r => min a r.first) f = f ∨ ∃ r ∈ l, l.foldl (fun a r => min a r.first) f = r.first) := by
  induction l generalizing f with
  | nil => exact ⟨Nat.le_refl f, by simp, .inl rfl⟩
  | cons a t ih =>
    obtain ⟨low, each, attained⟩ := ih (min f a.first)
    simp only [List.foldl_cons, List.forall_mem_cons, List.exists_mem_cons_iff]
    refine ⟨by omega, ⟨by omega, each⟩, ?_⟩
    rcases attained with start | found
    · rw [start]; omega
    · exact .inr (.inr found)

/-- The greatest of an end and the ends of some ranges. -/
theorem foldl_max_stop (l : List Range) (s : Nat) :
    s ≤ l.foldl (fun a r => max a r.stop) s ∧ (∀ r ∈ l, r.stop ≤ l.foldl (fun a r => max a r.stop) s) ∧
      (l.foldl (fun a r => max a r.stop) s = s ∨ ∃ r ∈ l, l.foldl (fun a r => max a r.stop) s = r.stop) := by
  induction l generalizing s with
  | nil => exact ⟨Nat.le_refl s, by simp, .inl rfl⟩
  | cons a t ih =>
    obtain ⟨low, each, attained⟩ := ih (max s a.stop)
    simp only [List.foldl_cons, List.forall_mem_cons, List.exists_mem_cons_iff]
    refine ⟨by omega, ⟨by omega, each⟩, ?_⟩
    rcases attained with start | found
    · rw [start]; omega
    · exact .inr (.inr found)

/-- R114: the ranges that a range from f up to stop overlaps or touches. -/
def touchedBy (l : List Range) (f stop : Nat) : List Range := l.filter fun r => decide (f ≤ r.stop) && decide (r.first ≤ stop)

theorem mem_touchedBy {l : List Range} {f stop : Nat} {r : Range} : r ∈ touchedBy l f stop ↔ r ∈ l ∧ f ≤ r.stop ∧ r.first ≤ stop := by
  simp [touchedBy, List.mem_filter]

/-- R114: an insertion merges into one range, from lo up to hi, the new one and those it touches; those below and above stay. -/
theorem mergeInto_spec (l : List Range) (f stop : Nat) :
    ∃ lo hi, mergeInto l f stop = l.filter (fun r => r.stop < f) ++ ⟨lo, hi - lo⟩ :: l.filter (fun r => stop < r.first) ∧
      (lo ≤ f ∧ (∀ r ∈ touchedBy l f stop, lo ≤ r.first) ∧ (lo = f ∨ ∃ r ∈ touchedBy l f stop, lo = r.first)) ∧
      (stop ≤ hi ∧ (∀ r ∈ touchedBy l f stop, r.stop ≤ hi) ∧ (hi = stop ∨ ∃ r ∈ touchedBy l f stop, hi = r.stop)) :=
  ⟨_, _, rfl, foldl_min_first _ f, foldl_max_stop _ stop⟩

section
variable {n : Nat} {l : List Range} {f stop : Nat} (good : RangesGood n l) (order : f < stop) (bound : stop ≤ n)
include good order

omit good in
/-- R114: the merged list covers what the list and the new range do, and nothing else. -/
theorem mergeInto_covers (x : Nat) : Covers (mergeInto l f stop) x ↔ Covers l x ∨ (f ≤ x ∧ x < stop) := by
  obtain ⟨lo, hi, merged, ⟨lo_le, lo_first, lo_is⟩, ⟨hi_ge, hi_stop, hi_is⟩⟩ := mergeInto_spec l f stop
  have inside : lo ≤ x ∧ x < lo + (hi - lo) ↔ (∃ r ∈ touchedBy l f stop, r.first ≤ x ∧ x < r.first + r.count) ∨ (f ≤ x ∧ x < stop) := by
    constructor
    · rintro ⟨low, high⟩
      rcases Nat.lt_or_ge x f with below | above
      · obtain same | ⟨r, mem, same⟩ := lo_is
        · omega
        · obtain ⟨-, reach, -⟩ := mem_touchedBy.1 mem
          exact .inl ⟨r, mem, by omega, by unfold Range.stop at reach; omega⟩
      · rcases Nat.lt_or_ge x stop with within | beyond
        · exact .inr ⟨above, within⟩
        · obtain same | ⟨r, mem, same⟩ := hi_is
          · omega
          · obtain ⟨-, -, reach⟩ := mem_touchedBy.1 mem
            exact .inl ⟨r, mem, by omega, by unfold Range.stop at same; omega⟩
    · rintro (⟨r, mem, low, high⟩ | ⟨low, high⟩)
      · have := lo_first r mem
        have := hi_stop r mem
        unfold Range.stop at *
        omega
      · omega
  simp only [Covers, merged, List.mem_append, List.mem_cons, List.mem_filter, decide_eq_true_eq, or_and_right, exists_or, exists_eq_left]
  rw [inside]
  constructor
  · rintro (⟨r, ⟨mem, -⟩, here⟩ | (⟨r, mem, here⟩ | fresh) | ⟨r, ⟨mem, -⟩, here⟩)
    · exact .inl ⟨r, mem, here⟩
    · exact .inl ⟨r, (mem_touchedBy.1 mem).1, here⟩
    · exact .inr fresh
    · exact .inl ⟨r, mem, here⟩
  · rintro (⟨r, mem, here⟩ | fresh)
    · by_cases below : r.stop < f
      · exact .inl ⟨r, ⟨mem, below⟩, here⟩
      · by_cases above : stop < r.first
        · exact .inr (.inr ⟨r, ⟨mem, above⟩, here⟩)
        · exact .inr (.inl (.inl ⟨r, mem_touchedBy.2 ⟨mem, by omega, by omega⟩, here⟩))
    · exact .inr (.inl (.inr fresh))

/-- R114: the merged list has at most one range more. -/
theorem mergeInto_length : (mergeInto l f stop).length ≤ l.length + 1 := by
  obtain ⟨lo, hi, merged, -, -⟩ := mergeInto_spec l f stop
  have split := List.length_eq_length_filter_add (l := l) fun r => decide (r.stop < f)
  have above : (l.filter fun r => stop < r.first).length ≤ (l.filter fun r => !decide (r.stop < f)).length := by
    rw [← List.countP_eq_length_filter, ← List.countP_eq_length_filter]
    refine List.countP_mono_left fun r mem beyond => ?_
    have := good.first_lt_stop mem
    simp only [decide_eq_true_eq, Bool.not_eq_true', decide_eq_false_iff_not] at *
    omega
  rw [merged, List.length_append, List.length_cons]
  omega

include bound

/-- R114: the merged list is in its form. -/
theorem mergeInto_good : RangesGood n (mergeInto l f stop) := by
  obtain ⟨lo, hi, merged, ⟨lo_le, lo_first, lo_is⟩, ⟨hi_ge, hi_stop, hi_is⟩⟩ := mergeInto_spec l f stop
  have each := ((rangesGood_iff n l).1 good).1
  have pairs := ((rangesGood_iff n l).1 good).2
  have hi_le : hi ≤ n := by
    obtain same | ⟨r, mem, same⟩ := hi_is
    · omega
    · rw [same]; exact (each r (mem_touchedBy.1 mem).1).2
  have below {a : Range} (ha : a ∈ l) (low : a.stop < f) : a.stop < lo := by
    obtain same | ⟨r, mem, same⟩ := lo_is
    · omega
    · obtain ⟨hr, reach, -⟩ := mem_touchedBy.1 mem
      have := good.first_lt_stop ha
      rcases good.apart ha hr with rfl | apart | apart <;> omega
  have above {b : Range} (hb : b ∈ l) (high : stop < b.first) : hi < b.first := by
    obtain same | ⟨r, mem, same⟩ := hi_is
    · omega
    · obtain ⟨hr, -, reach⟩ := mem_touchedBy.1 mem
      have := good.first_lt_stop hb
      rcases good.apart hb hr with rfl | apart | apart <;> omega
  have middle : (⟨lo, hi - lo⟩ : Range).stop = hi := Nat.add_sub_cancel' (show lo ≤ hi by omega)
  rw [rangesGood_iff, merged]
  constructor
  · intro r mem
    rcases List.mem_append.1 mem with low | mem
    · exact each r (List.mem_filter.1 low).1
    · rcases List.mem_cons.1 mem with rfl | high
      · exact ⟨Nat.sub_pos_of_lt (by omega), by rw [middle]; exact hi_le⟩
      · exact each r (List.mem_filter.1 high).1
  · refine List.pairwise_append.2 ⟨pairs.filter _, List.pairwise_cons.2 ⟨fun b hb => ?_, pairs.filter _⟩, fun a ha b hb => ?_⟩
    · obtain ⟨hb, high⟩ := List.mem_filter.1 hb
      rw [middle]; exact above hb (of_decide_eq_true high)
    · obtain ⟨ha, low⟩ := List.mem_filter.1 ha
      rcases List.mem_cons.1 hb with rfl | hb
      · exact below ha (of_decide_eq_true low)
      · have high := of_decide_eq_true (List.mem_filter.1 hb).2
        have := of_decide_eq_true low
        omega

end

/-! ## The overflow -/

/-- R115: two ranges are neighbours in a list, after `pre` and before `post`. -/
def Neighbours (l pre : List Range) (a b : Range) (post : List Range) : Prop := l = pre ++ a :: b :: post

theorem Neighbours.cons_cases {c d : Range} {t pre : List Range} {a b : Range} {post : List Range}
    (h : Neighbours (c :: d :: t) pre a b post) :
    (pre = [] ∧ a = c ∧ b = d ∧ post = t) ∨ ∃ pre', pre = c :: pre' ∧ Neighbours (d :: t) pre' a b post := by
  cases pre with
  | nil => obtain ⟨rfl, rfl, rfl⟩ : c = a ∧ d = b ∧ t = post := by simpa [Neighbours] using h
           exact .inl ⟨rfl, rfl, rfl, rfl⟩
  | cons x pre' => obtain ⟨rfl, rest⟩ : c = x ∧ d :: t = pre' ++ a :: b :: post := by simpa [Neighbours] using h
                   exact .inr ⟨pre', rfl, rest⟩

theorem Neighbours.cons {l pre : List Range} {a b : Range} {post : List Range} (h : Neighbours l pre a b post) (c : Range) :
    Neighbours (c :: l) (c :: pre) a b post := congrArg (List.cons c) h

theorem not_neighbours_short {l pre : List Range} {a b : Range} {post : List Range} (h : Neighbours l pre a b post) : 2 ≤ l.length := by
  rw [h, List.length_append, List.length_cons, List.length_cons]; omega

/-- R115: the smallest gap is that of some neighbours, and no greater than that of any. -/
theorem smallestGap_spec (c d : Range) (t : List Range) :
    ∃ g, smallestGap (c :: d :: t) = some g ∧ (∃ pre a b post, Neighbours (c :: d :: t) pre a b post ∧ gapBetween a b = g) ∧
      ∀ pre a b post, Neighbours (c :: d :: t) pre a b post → g ≤ gapBetween a b := by
  induction t generalizing c d with
  | nil =>
    refine ⟨gapBetween c d, rfl, ⟨[], c, d, [], rfl, rfl⟩, fun pre a b post h => ?_⟩
    rcases h.cons_cases with ⟨-, rfl, rfl, -⟩ | ⟨pre', -, h⟩
    · exact Nat.le_refl _
    · exact absurd (not_neighbours_short h) (by simp)
  | cons e t ih =>
    obtain ⟨g, least, ⟨pre, a, b, post, here, attained⟩, bound⟩ := ih d e
    refine ⟨min (gapBetween c d) g, by rw [smallestGap, least], ?_, fun pre a b post h => ?_⟩
    · rcases Nat.le_total (gapBetween c d) g with first | later
      · exact ⟨[], c, d, e :: t, rfl, (Nat.min_eq_left first).symm⟩
      · exact ⟨c :: pre, a, b, post, here.cons c, attained.trans (Nat.min_eq_right later).symm⟩
    · rcases h.cons_cases with ⟨-, rfl, rfl, -⟩ | ⟨pre', -, h⟩
      · exact Nat.min_le_left _ _
      · exact (Nat.min_le_right _ _).trans (bound pre' a b post h)

/-- R115: the range that covers two neighbours and the gap between them. -/
def joined (a b : Range) : Range := ⟨a.first, b.stop - a.first⟩

/-- R115: the lowest neighbours of a gap become one range. -/
theorem mergeFirstGap_spec {g : Nat} {l : List Range} (some_pair : ∃ pre a b post, Neighbours l pre a b post ∧ gapBetween a b = g) :
    ∃ pre a b post, Neighbours l pre a b post ∧ gapBetween a b = g ∧ mergeFirstGap g l = pre ++ joined a b :: post ∧
      ∀ pre' a' b' post', Neighbours l pre' a' b' post' → gapBetween a' b' = g → pre.length ≤ pre'.length := by
  induction l with
  | nil => obtain ⟨pre, a, b, post, h, -⟩ := some_pair; exact absurd (not_neighbours_short h) (by simp)
  | cons c t ih =>
    cases t with
    | nil => obtain ⟨pre, a, b, post, h, -⟩ := some_pair; exact absurd (not_neighbours_short h) (by simp)
    | cons d t =>
      by_cases here : gapBetween c d = g
      · exact ⟨[], c, d, t, rfl, here, by rw [mergeFirstGap, if_pos here]; rfl, fun _ _ _ _ _ _ => Nat.zero_le _⟩
      · have later {pre a b post} (h : Neighbours (c :: d :: t) pre a b post) (gap : gapBetween a b = g) :
            ∃ pre', pre = c :: pre' ∧ Neighbours (d :: t) pre' a b post := by
          rcases h.cons_cases with ⟨-, rfl, rfl, -⟩ | rest
          · exact absurd gap here
          · exact rest
        obtain ⟨pre, a, b, post, h, gap⟩ := some_pair
        obtain ⟨pre', -, h'⟩ := later h gap
        obtain ⟨pre, a, b, post, found, gap, merged, lowest⟩ := ih ⟨pre', a, b, post, h', gap⟩
        refine ⟨c :: pre, a, b, post, found.cons c, gap, by rw [mergeFirstGap, if_neg here, merged]; rfl, fun pre2 a2 b2 post2 h2 gap2 => ?_⟩
        obtain ⟨pre2', rfl, h2'⟩ := later h2 gap2
        exact Nat.succ_le_succ (lowest pre2' a2 b2 post2 h2' gap2)

/-- R115: what an overflow merges. -/
theorem resolveOverflow_spec {l : List Range} (long : 32 < l.length) :
    ∃ pre a b post, Neighbours l pre a b post ∧ resolveOverflow l = pre ++ joined a b :: post ∧
      ∀ pre' a' b' post', Neighbours l pre' a' b' post' →
        gapBetween a b ≤ gapBetween a' b' ∧ (gapBetween a b = gapBetween a' b' → pre.length ≤ pre'.length) := by
  match l, long with
  | c :: d :: t, long =>
    obtain ⟨g, least, attained, bound⟩ := smallestGap_spec c d t
    obtain ⟨pre, a, b, post, here, rfl, merged, lowest⟩ := mergeFirstGap_spec attained
    refine ⟨pre, a, b, post, here, ?_, fun pre' a' b' post' h => ⟨bound pre' a' b' post' h, fun tie => lowest pre' a' b' post' h tie.symm⟩⟩
    exact (if_pos long).trans (by rw [least]; exact merged)

theorem resolveOverflow_fits {l : List Range} (fits : l.length ≤ 32) : resolveOverflow l = l := if_neg (Nat.not_lt.2 fits)

section
variable {n : Nat} {l pre : List Range} {a b : Range} {post : List Range} (good : RangesGood n l) (pair : Neighbours l pre a b post)
include good pair

theorem joined_stop : a.first < b.first ∧ (joined a b).stop = b.stop := by
  rw [rangesGood_iff, pair] at good
  have ha := good.1 a (by simp)
  have hb := good.1 b (by simp)
  have apart : a.stop < b.first := (List.pairwise_cons.1 (List.pairwise_append.1 good.2).2.1).1 b (List.mem_cons_self ..)
  unfold joined Range.stop at *
  simp only
  omega

/-- R115: the joining of neighbours keeps the form. -/
theorem joined_good : RangesGood n (pre ++ joined a b :: post) := by
  obtain ⟨order, stop⟩ := joined_stop good pair
  rw [rangesGood_iff, pair] at good
  rw [rangesGood_iff]
  obtain ⟨each, pairs⟩ := good
  simp only [List.pairwise_append, List.pairwise_cons, List.forall_mem_cons, List.forall_mem_append] at pairs each ⊢
  obtain ⟨each_pre, each_a, each_b, each_post⟩ := each
  obtain ⟨pairs_pre, ⟨-, after_b, pairs_post⟩, across⟩ := pairs
  refine ⟨⟨each_pre, ⟨?_, by rw [stop]; exact each_b.2⟩, each_post⟩, pairs_pre, ⟨by rwa [stop], pairs_post⟩, fun x hx => ?_⟩
  · have := each_b.1
    unfold joined Range.stop
    simp only
    omega
  · exact ⟨(across x hx).1, (across x hx).2.2⟩

/-- R115: the joining of neighbours loses no block. -/
theorem joined_covers {x : Nat} (covered : Covers l x) : Covers (pre ++ joined a b :: post) x := by
  obtain ⟨order, stop⟩ := joined_stop good pair
  rw [Covers, pair] at covered
  obtain ⟨r, mem, low, high⟩ := covered
  have within {y : Nat} (from_a : a.first ≤ y) (to_b : y < b.stop) : Covers (pre ++ joined a b :: post) y :=
    ⟨joined a b, by simp, from_a, by rw [← stop] at to_b; exact to_b⟩
  have apart : a.stop < b.first := by
    have pairs := ((rangesGood_iff n l).1 good).2
    rw [pair] at pairs
    exact (List.pairwise_cons.1 (List.pairwise_append.1 pairs).2.1).1 b (List.mem_cons_self ..)
  rcases List.mem_append.1 mem with early | mem
  · exact ⟨r, List.mem_append_left _ early, low, high⟩
  · rcases List.mem_cons.1 mem with rfl | mem
    · exact within low (by unfold Range.stop at *; omega)
    · rcases List.mem_cons.1 mem with rfl | late
      · exact within (by omega) high
      · exact ⟨r, List.mem_append_right _ (List.mem_cons_of_mem _ late), low, high⟩

end

/-! ## The insertion -/

theorem insertRange_none {n f c : Nat} (outside : n ≤ f ∨ c = 0) (l : List Range) : insertRange n l f c = l := if_pos outside

theorem insertRange_some {n f c : Nat} (inside : f < n) (some_block : c ≠ 0) (l : List Range) :
    insertRange n l f c = resolveOverflow (mergeInto l f (min (f + c) n)) := if_neg (by omega)

/-- R113 to R115: an insertion keeps the form and loses no block. -/
theorem insertRange_keeps {n : Nat} {l : List Range} (good : RangesGood n l) (few : l.length ≤ 32) (f c : Nat) :
    RangesGood n (insertRange n l f c) ∧ (insertRange n l f c).length ≤ 32 ∧
      ∀ x, Covers l x ∨ (f ≤ x ∧ x < f + c ∧ x < n) → Covers (insertRange n l f c) x := by
  by_cases outside : n ≤ f ∨ c = 0
  · rw [insertRange_none outside]
    exact ⟨good, few, fun x covered => covered.resolve_right (by omega)⟩
  · have order : f < min (f + c) n := by omega
    have bound : min (f + c) n ≤ n := Nat.min_le_right _ _
    have merged_good := mergeInto_good good order bound
    have merged_length := mergeInto_length good order
    have covered (x : Nat) (h : Covers l x ∨ (f ≤ x ∧ x < f + c ∧ x < n)) : Covers (mergeInto l f (min (f + c) n)) x :=
      (mergeInto_covers order x).2 (h.imp id fun new => by omega)
    rw [insertRange_some (by omega) (by omega)]
    rcases Nat.lt_or_ge 32 (mergeInto l f (min (f + c) n)).length with long | fits
    · obtain ⟨pre, a, b, post, pair, merged, -⟩ := resolveOverflow_spec long
      rw [merged]
      refine ⟨joined_good merged_good pair, ?_, fun x h => joined_covers merged_good pair (covered x h)⟩
      have length : (mergeInto l f (min (f + c) n)).length = pre.length + (post.length + 1 + 1) := by
        rw [pair, List.length_append, List.length_cons, List.length_cons]
      rw [List.length_append, List.length_cons]
      omega
    · rw [resolveOverflow_fits fits]
      exact ⟨merged_good, fits, covered⟩

/-- Settles O31: the list m is the merge of R114, and the outcome is m or the joining of its lowest closest neighbours (R115). -/
theorem wantedInsertionKeepsForm : Obligations.WantedInsertionKeepsForm := by
  intro n l f c good few has l'
  obtain ⟨good', few', covered⟩ := insertRange_keeps good few f c
  refine ⟨good', few', fun x h => covered x (.inl h), fun x low high below => covered x (.inr ⟨low, high, below⟩),
    fun outside => insertRange_none outside l, fun inside fits x h => ?_, fun inside some_block => ?_⟩
  · by_cases empty : c = 0
    · rw [show l' = l from insertRange_none (.inr empty) l] at h
      exact .inl h
    · rw [show l' = mergeInto l f (min (f + c) n) from (insertRange_some inside empty l).trans (resolveOverflow_fits fits)] at h
      exact ((mergeInto_covers (by omega) x).1 h).imp id fun new => by omega
  · have order : f < min (f + c) n := by omega
    have outcome : l' = resolveOverflow (mergeInto l f (min (f + c) n)) := insertRange_some inside some_block l
    have length := mergeInto_length good order
    refine ⟨mergeInto l f (min (f + c) n), mergeInto_good good order (Nat.min_le_right _ _), fun x => ?_, by omega, fun fits => ?_,
      fun long => ?_⟩
    · refine (mergeInto_covers order x).trans (or_congr_right ?_)
      omega
    · rw [outcome, resolveOverflow_fits fits]
    · obtain ⟨pre, a, b, post, pair, merged, lowest⟩ := resolveOverflow_spec (Nat.lt_of_lt_of_eq (Nat.lt_succ_self 32) long.symm)
      refine ⟨pre, a, b, post, pair, outcome.trans merged, fun pre' a' b' post' pair' => ?_⟩
      have least := lowest pre' a' b' post' pair'
      rwa [gapBetween, gapBetween, Nat.sub_sub, Nat.sub_sub] at least

end Sys2Proof.Machine
end

section
/-! SUPPORT. Presence and the scan (01_the_desk_table.md, 02_circuits_and_wake_scheduling.md): the Address Index (R4), what a frame from a desk's
address does (R36, R37), what the walk of a scan leaves of the queue, the desks and the circuits (R25, R30, R31, R39), and the statements O33 and
O35. -/

namespace Sys2Proof.Machine

/-! ## The Address Index -/

theorem State.lookup_eq_some_iff (s : State) (a : MacAddr) (d : DeskId) :
    s.lookup a = some d ↔ a ≠ 0 ∧ s.desks[d].config.address = a ∧ ∀ e < d, s.desks[e].config.address ≠ a := by
  unfold State.lookup
  split
  · next zero => simp [zero]
  · next some_address =>
    rw [find_finRange_eq_some_iff]
    simp only [decide_eq_true_eq, decide_eq_false_iff_not, ne_eq, some_address, not_false_eq_true, true_and]

theorem State.lookup_eq_none_iff (s : State) (a : MacAddr) :
    s.lookup a = none ↔ a = 0 ∨ ∀ d : DeskId, s.desks[d].config.address ≠ a := by
  unfold State.lookup
  split
  · next zero => simp [zero]
  · next some_address =>
    simp only [List.find?_eq_none, decide_eq_true_eq]
    exact ⟨fun none => .inr fun d => none d (List.mem_finRange d), fun h d _ => (h.resolve_left some_address) d⟩

/-- R4: of distinct addresses, each names the one record that holds it. -/
theorem State.AddressesDistinct.lookup_iff {s : State} (distinct : s.AddressesDistinct) (a : MacAddr) (d : DeskId) :
    s.lookup a = some d ↔ a ≠ 0 ∧ s.desks[d].config.address = a := by
  rw [State.lookup_eq_some_iff]
  refine and_congr_right fun some_address => and_iff_left_of_imp fun holds e less same => ?_
  have one : e = d := distinct e d (by rw [same]; exact some_address) (same.trans holds.symm)
  exact absurd less (one ▸ lt_irrefl _)

/-! ## Presence -/

theorem Night.awaitsPresence_iff (n : Night) :
    n.awaitsPresence = true ↔ n.state = .waking ∨ (n.state = .queued ∧ 1 ≤ n.wakeAttempts) := by
  simp only [Night.awaitsPresence, Bool.or_eq_true, Bool.and_eq_true, beq_iff_eq, decide_eq_true_eq]

/-- R36, R37: a desk heard is in the Wake Queue no longer. -/
theorem State.unqueue_eq (s : State) (d : DeskId) :
    s.unqueue d = { s with wakeQueue := if s.desks[d].night.state = .queued then s.wakeQueue.filter (· != d) else s.wakeQueue } := by
  simp only [State.unqueue, beq_iff_eq]
  split <;> rfl

/-- R36, R37: the desk of a known address, heard in ACTIVE or PAUSED after a wake. -/
theorem State.presence_heard {s : State} {src : MacAddr} {d : DeskId} {paused : Bool} {info : RunInfo} {deadline : Nat}
    (known : s.lookup src = some d) (run : s.run = .running paused info deadline)
    (awaits : (s.desks[d].night).awaitsPresence = true) :
    s.presence src = { s with
      desks := s.desks.set d { s.desks[d] with night := { s.desks[d].night with
        state := .awake, timer := some (s.newTimer info.params.discoveryTimeout) } }
      wakeQueue := if s.desks[d].night.state = .queued then s.wakeQueue.filter (· != d) else s.wakeQueue } := by
  simp only [State.presence, known, State.deskHeard, run, awaits, if_true, State.unqueue_eq]
  rfl

/-- R36: a frame that is no desk's sign of waking. -/
theorem State.presence_unheard {s : State} {src : MacAddr}
    (unheard : s.lookup src = none ∨ s.run.inProgress = false ∨ ∃ d, s.lookup src = some d ∧ (s.desks[d].night).awaitsPresence = false) :
    s.presence src = s := by
  unfold State.presence State.deskHeard
  split
  · next d known =>
    split
    · next run =>
      rcases unheard with unknown | notRunning | ⟨e, known', quiet⟩
      · rw [known] at unknown; cases unknown
      · rw [run] at notRunning; cases notRunning
      · cases known.symm.trans known'
        rw [quiet]; rfl
    · rfl
  · rfl

/-- Settles O33: the lookup is `State.AddressesDistinct.lookup_iff`, and presence either hears a desk or leaves the state. -/
theorem presenceConfirmsWake : Obligations.PresenceConfirmsWake := by
  refine ⟨fun s a distinct => ⟨distinct.lookup_iff a, s.lookup_eq_none_iff a⟩, fun s src => ⟨?heard, fun unheard => ?unheard⟩⟩
  case heard =>
    intro d paused info deadline known run n awaits
    rw [State.presence_heard known run (s.desks[d].night.awaitsPresence_iff.2 awaits), State.newTimer_running run]
  case unheard =>
    refine State.presence_unheard (unheard.imp id (Or.imp id fun ⟨d, known, notWaking, notRequeued⟩ => ⟨d, known, ?_⟩))
    rw [Bool.eq_false_iff, ne_eq, Night.awaitsPresence_iff]
    rintro (waking | ⟨queued, attempts⟩)
    · exact notWaking waking
    · exact notRequeued.elim (fun notQueued => notQueued queued) (fun zero => by omega)

/-! ## A wake -/

section
variable (s : State) (info : RunInfo) (d : DeskId)

/-- R33: the night fields of a desk that the scan wakes. -/
def Night.woken (timer : DeskTimer) (n : Night) : Night :=
  { n with wakeAttempts := n.wakeAttempts + 1, state := .waking, timer := some timer }

theorem State.wakeDesk_wakeQueue : (s.wakeDesk info d).wakeQueue = s.wakeQueue.filter (· != d) := by
  simp only [State.wakeDesk, State.putControl_wakeQueue, State.modifyNight_wakeQueue]

theorem State.wakeDesk_desk (e : DeskId) :
    (s.wakeDesk info d).desks[e] =
      if d = e then { s.desks[d] with night := s.desks[d].night.woken (s.newTimer info.params.wakeTimeout) } else s.desks[e] := by
  simp only [State.wakeDesk, State.putControl_desks, State.modifyNight_desk, Night.woken]

theorem State.wakeDesk_circuits :
    (s.wakeDesk info d).circuits = s.circuits.set s.desks[d].config.circuit
      ((s.circuits[s.desks[d].config.circuit]).charged s.now s.desks[d].config.weight) := by
  simp only [State.wakeDesk, State.putControl_circuits, State.modifyNight_circuits]

end

theorem mem_filter_ne {d e : DeskId} {l : List DeskId} : e ∈ l.filter (· != d) ↔ e ∈ l ∧ e ≠ d := by
  rw [List.mem_filter, bne_iff_ne]

/-! ## The walk -/

/-- R25, R31: what a walk over some desks, each once, leaves of the state it began in. -/
structure ScanWalk (ds : List DeskId) (s t : State) (failed failed' : Bool) : Prop where
  order : t.wakeQueue.Sublist s.wakeQueue
  kept : ∀ d ∉ ds, d ∈ s.wakeQueue → d ∈ t.wakeQueue
  taken : ∀ d ∈ ds, d ∈ s.wakeQueue → d ∉ t.wakeQueue →
    (t.desks[d].night.state = .waking ∧ t.desks[d].night.wakeAttempts = s.desks[d].night.wakeAttempts + 1) ∨
    (t.desks[d].night.state = .failed ∧ t.desks[d].night.failCause = some .overBudget ∧ failed' = true)
  night : ∀ d : DeskId, d ∉ ds ∨ (d ∈ t.wakeQueue ∧ d ∈ s.wakeQueue) → t.desks[d].night = s.desks[d].night
  config : ∀ d : DeskId, t.desks[d].config = s.desks[d].config
  circuit : ∀ c : CircuitId, t.circuits[c].budget = s.circuits[c].budget ∧
    t.circuits[c].load ≤ max s.circuits[c].load s.circuits[c].budget ∧
    (s.circuits[c].load ≤ 65535 → s.circuits[c].load ≤ t.circuits[c].load ∧ t.circuits[c].load ≤ 65535)
  flag : failed = true → failed' = true

theorem ScanWalk.refl (ds : List DeskId) (s : State) (failed : Bool) : ScanWalk ds s s failed failed where
  order := List.Sublist.refl _
  kept _ _ h := h
  taken _ _ h out := absurd h out
  night _ _ := rfl
  config _ := rfl
  circuit _ := ⟨rfl, Nat.le_max_left _ _, fun h => ⟨Nat.le_refl _, h⟩⟩
  flag h := h

/-- Two walks over different desks, one after the other. -/
theorem ScanWalk.cons {d : DeskId} {ds : List DeskId} {s t u : State} {failed failed' failed'' : Bool}
    (first : ScanWalk [d] s t failed failed') (rest : ScanWalk ds t u failed' failed'') (once : d ∉ ds) :
    ScanWalk (d :: ds) s u failed failed'' where
  order := rest.order.trans first.order
  kept e out mem := by
    rw [List.mem_cons, not_or] at out
    exact rest.kept e out.2 (first.kept e (by simpa using out.1) mem)
  taken e mem queued gone := by
    rcases List.mem_cons.1 mem with rfl | later
    · have night := rest.night e (.inl once)
      have left : e ∉ t.wakeQueue := fun h => gone (rest.kept e once h)
      rw [night]
      exact (first.taken e (List.mem_singleton.2 rfl) queued left).imp id fun ⟨state, cause, flag⟩ => ⟨state, cause, rest.flag flag⟩
    · have other : e ∉ [d] := fun h => once (List.mem_singleton.1 h ▸ later)
      have night := first.night e (.inl other)
      rw [← night]
      exact rest.taken e later (first.kept e other queued) gone
  night e h := by
    rcases h with out | ⟨mem, queued⟩
    · rw [List.mem_cons, not_or] at out
      exact (rest.night e (.inl out.2)).trans (first.night e (.inl (by simpa using out.1)))
    · have between := rest.order.subset mem
      exact (rest.night e (.inr ⟨mem, between⟩)).trans (first.night e (.inr ⟨between, queued⟩))
  config e := (rest.config e).trans (first.config e)
  circuit c := by
    obtain ⟨budget, load, low⟩ := first.circuit c
    obtain ⟨budget', load', low'⟩ := rest.circuit c
    refine ⟨budget'.trans budget, by omega, fun h => ?_⟩
    obtain ⟨rise, limit⟩ := low h
    exact ⟨rise.trans (low' limit).1, (low' limit).2⟩
  flag h := rest.flag (first.flag h)

/-- R31 to R33: the walk over one desk. -/
theorem ScanWalk.single (info : RunInfo) (s : State) (failed : Bool) (d : DeskId) (queued : d ∈ s.wakeQueue) :
    ScanWalk [d] s (State.scanDesk info (s, failed) d).1 failed (State.scanDesk info (s, failed) d).2 := by
  rcases State.scanDesk_cases info s failed d with ⟨-, scanned⟩ | ⟨-, eligible, scanned⟩ | ⟨-, -, scanned⟩ <;> rw [scanned]
  case inl =>
    have desk (e : DeskId) : ((s.withoutQueued d).failDesk d .overBudget).desks[e] =
        if d = e then { s.desks[d] with night := s.desks[d].night.failed .overBudget } else s.desks[e] :=
      (s.withoutQueued d).failDesk_desk d e .overBudget
    have queue : ((s.withoutQueued d).failDesk d .overBudget).wakeQueue = s.wakeQueue.filter (· != d) := State.failDesk_wakeQueue ..
    have circuits : ((s.withoutQueued d).failDesk d .overBudget).circuits = s.circuits := State.failDesk_circuits ..
    refine ⟨by rw [queue]; exact List.filter_sublist, fun e out mem => ?_, fun e mem _ _ => .inr ?_, fun e h => ?_, fun e => ?_, fun c => ?_,
      fun _ => rfl⟩
    · rw [queue, mem_filter_ne]; exact ⟨mem, by simpa using out⟩
    · rw [desk, if_pos (List.mem_singleton.1 mem).symm]; exact ⟨rfl, rfl, rfl⟩
    · have other : d ≠ e := by
        rcases h with out | ⟨mem, -⟩
        · exact fun same => out (List.mem_singleton.2 same.symm)
        · rw [queue, mem_filter_ne] at mem; exact mem.2.symm
      simp only [desk, if_neg other]
    · rw [desk]; split
      · next same => rw [same]
      · rfl
    · rw [circuits]; exact ⟨rfl, Nat.le_max_left _ _, fun h => ⟨Nat.le_refl _, h⟩⟩
  case inr.inl =>
    have queue := s.wakeDesk_wakeQueue info d
    have desk := s.wakeDesk_desk info d
    obtain ⟨fits, -, -⟩ := (s.eligible_iff d).1 eligible
    refine ⟨by rw [queue]; exact List.filter_sublist, fun e out mem => ?_, fun e mem _ _ => .inl ?_, fun e h => ?_, fun e => ?_, fun c => ?_,
      fun h => h⟩
    · rw [queue, mem_filter_ne]; exact ⟨mem, by simpa using out⟩
    · obtain rfl := List.mem_singleton.1 mem
      rw [desk, if_pos rfl]; exact ⟨rfl, rfl⟩
    · have other : d ≠ e := by
        rcases h with out | ⟨mem, -⟩
        · exact fun same => out (List.mem_singleton.2 same.symm)
        · rw [queue, mem_filter_ne] at mem; exact mem.2.symm
      simp only [desk, if_neg other]
    · rw [desk]; split
      · next same => rw [same]
      · rfl
    · rw [s.wakeDesk_circuits, vector_set_get]
      split
      · next same => subst same; exact ⟨rfl, by simp only [Circuit.charged, loadAfterWake]; omega,
          fun low => by simp only [Circuit.charged, loadAfterWake]; omega⟩
      · exact ⟨rfl, Nat.le_max_left _ _, fun h => ⟨Nat.le_refl _, h⟩⟩
  case inr.inr => exact ScanWalk.refl [d] s failed

/-- R30: the walk over desks that stand in the queue, each once. -/
theorem ScanWalk.fold (info : RunInfo) (ds : List DeskId) (once : ds.Nodup) (s : State) (failed : Bool)
    (queued : ∀ d ∈ ds, d ∈ s.wakeQueue) :
    ScanWalk ds s (ds.foldl (State.scanDesk info) (s, failed)).1 failed (ds.foldl (State.scanDesk info) (s, failed)).2 := by
  induction ds generalizing s failed with
  | nil => exact ScanWalk.refl [] s failed
  | cons d ds ih =>
    obtain ⟨out, once⟩ := List.nodup_cons.1 once
    have first := ScanWalk.single info s failed d (queued d (List.mem_cons_self ..))
    have rest := ih once (State.scanDesk info (s, failed) d).1 (State.scanDesk info (s, failed) d).2 fun e mem =>
      first.kept e (fun h => out (List.mem_singleton.1 h ▸ mem)) (queued e (List.mem_cons_of_mem d mem))
    exact first.cons rest out

theorem State.scan_running {s : State} {info : RunInfo} {deadline : Nat} (run : s.run = .running false info deadline) :
    s.scan = s.wakeQueue.foldl (State.scanDesk info) (s, false) := by
  simp only [State.scan, run]

theorem State.scan_notActive {s : State} (run : s.run.active = false) : s.scan = (s, false) := by
  unfold State.scan
  split
  · next running => rw [running] at run; cases run
  · rfl

/-- ACTIVE is the run's one state that a scan runs in. -/
theorem Run.active_iff (run : Run) : run.active = true ↔ ∃ info deadline, run = .running false info deadline := by
  cases run with
  | standby => simp [Run.active]
  | running paused info deadline => cases paused <;> simp [Run.active]
  | closed info cause left => simp [Run.active]

/-- R30: a scan in ACTIVE walks the queue as it stood. -/
theorem State.scan_walk {s : State} (active : s.run.active = true) (once : s.wakeQueue.Nodup) :
    ScanWalk s.wakeQueue s s.scan.1 false s.scan.2 := by
  obtain ⟨info, deadline, run⟩ := s.run.active_iff.1 active
  rw [State.scan_running run]
  exact ScanWalk.fold info s.wakeQueue once s false fun _ h => h

/-- Settles O35: the walk's outcome is `ScanWalk`, over the queue as it stood. -/
theorem scanOutcome : Obligations.ScanOutcome := by
  refine fun s => ⟨State.scan_notActive, fun info deadline run => State.scan_running run, ?_⟩
  intro active once t
  have walk := State.scan_walk active once
  refine ⟨walk.order, fun d mem gone => walk.taken d mem mem gone, fun d h => ?_, walk.config, fun c => ?_⟩
  · exact walk.night d (h.imp id fun mem => ⟨mem, walk.order.subset mem⟩)
  · obtain ⟨budget, load, low⟩ := walk.circuit c
    exact ⟨budget, load, fun h => (low h).1⟩

end Sys2Proof.Machine
end

section
/-! SUPPORT. Boot discoveries (03_boot_discovery_steering.md: O42, O43), the Stream Engine's choice (05_the_stream_engine_and_repair.md: O50) and a
REPORT's steps (06_desk_reports_and_the_wanted_list.md: O46). -/

namespace Sys2Proof.Machine

/-- R77: what follows an event in which no desk finished. -/
theorem State.settle_unfinished (before s : State) : State.settle before s false = State.ringSpace before s := rfl

/-! ## Boot discoveries -/

section
variable {s : State} {p : Port} {frame : List Byte} {q : Discovery} {info : RunInfo} {d : DeskId}

/-- R48: a frame handed back frees no slot, so nothing follows it. -/
theorem State.bootEvent_handedBack (h : s.bootHandle p frame = (s.handBack p frame, false)) :
    s.bootEvent p frame = (s.count .bootPassBacks).passThrough p frame := by
  rw [State.bootEvent, h]
  exact State.settle_quiet (by rw [State.handBack, State.passThrough_slots, State.count_slots])

theorem State.bootHandle_unparsed (parsed : parseDiscovery frame = none) :
    s.bootHandle .room frame = (s.handBack .room frame, false) := by
  unfold State.bootHandle
  generalize parseDiscovery frame = discovery at *
  subst parsed
  rfl

theorem State.bootHandle_unqualified (parsed : parseDiscovery frame = some q) (qualifies : s.qualifies q = none) :
    s.bootHandle .room frame = (s.handBack .room frame, false) := by
  unfold State.bootHandle
  generalize parseDiscovery frame = discovery at *
  subst parsed
  simp only [qualifies]

theorem State.bootHandle_qualified (parsed : parseDiscovery frame = some q) (qualifies : s.qualifies q = some (info, d)) :
    s.bootHandle .room frame = s.answerDiscovery frame q info d := by
  unfold State.bootHandle
  generalize parseDiscovery frame = discovery at *
  subst parsed
  simp only [qualifies]

/-- R56: a reply joins the Control Queue and is counted, or is dropped and counted. -/
theorem State.sendBootReply_eq (s : State) (b : BootReply) :
    s.sendBootReply b =
      if s.controlQueue.length < 16 then State.count { s with controlQueue := s.controlQueue ++ [.bootReply b] } .bootReplies
      else s.count .controlDrops := by
  unfold State.sendBootReply
  by_cases room : s.controlQueue.length < 16
  · rw [if_pos room, State.putControl_room room]; exact if_pos room
  · rw [if_neg room, State.putControl]; exact (if_neg room).trans (if_neg room)

/-- R49, R50: an AWAKE or OFFERED desk. -/
theorem State.answerDiscovery_offered (state : s.desks[d].night.state ≠ .joined) :
    s.answerDiscovery frame q info d = ((s.offerDesk info d).sendBootReply (bootReplyFor info s.desks[d].config q), false) := by
  rw [State.answerDiscovery, if_neg (by rwa [State.isJoined_iff])]

theorem State.restartDesk_eq (s : State) (info : RunInfo) (d : DeskId) :
    s.restartDesk info d = (s.modifyNight d fun n => { n with
      restarts := n.restarts + 1, state := .offered, joinedPos := none
      timer := some (s.newTimer info.params.joinTimeout) }).leaveRing d := rfl

/-- R51: a JOINED desk below the restart limit. -/
theorem State.answerDiscovery_restarted (state : s.desks[d].night.state = .joined)
    (below : s.desks[d].night.restarts < info.params.restartLimit) :
    s.answerDiscovery frame q info d = ((s.restartDesk info d).sendBootReply (bootReplyFor info s.desks[d].config q), false) := by
  rw [State.answerDiscovery, if_pos ((s.isJoined_iff d).2 state), if_pos below]

/-- R52: a JOINED desk at the restart limit. -/
theorem State.answerDiscovery_failed (state : s.desks[d].night.state = .joined)
    (reached : info.params.restartLimit ≤ s.desks[d].night.restarts) :
    s.answerDiscovery frame q info d = ((s.failDesk d .restarts).handBack .room frame, true) := by
  rw [State.answerDiscovery, if_pos ((s.isJoined_iff d).2 state), if_neg (Nat.not_lt.2 reached)]

end

/-- Settles O43: neither the Upstream port's discoveries nor those of the Room port that do not qualify are answered. -/
theorem discoveryHandedBack : Obligations.DiscoveryHandedBack := by
  refine fun frame s => ⟨congrArg _ (State.bootEvent_handedBack rfl), ?_⟩
  intro s1 unanswered
  refine congrArg _ (State.bootEvent_handedBack ?_)
  rcases unanswered with parsed | ⟨q, parsed, unqualified⟩
  · exact State.bootHandle_unparsed parsed
  · exact State.bootHandle_unqualified parsed unqualified

/-- Settles O42, by the desk's state and its restarts. -/
theorem discoveryAnswered : Obligations.DiscoveryAnswered := by
  intro frame s q info d parsed s1 qualifies n cfg timer reply answered
  have handled {t : State} {failed : Bool} (outcome : s1.answerDiscovery frame q info d = (t, failed)) :
      exec (.bootDiscovery .room frame) s = .next (State.settle s1 t failed) := by
    rw [← State.bootHandle_qualified parsed qualifies] at outcome
    refine congrArg Host.Outcome.next ?_
    change State.settle s1 (s1.bootHandle .room frame).1 (s1.bootHandle .room frame).2 = _
    rw [outcome]
  have reply_sent (t : State) : t.sendBootReply (bootReplyFor info s1.desks[d].config q) = answered t := State.sendBootReply_eq t _
  refine ⟨fun state => ?_, fun state below => ?_, fun state reached => ?_⟩
  · rw [handled (State.answerDiscovery_offered state), State.settle_unfinished, reply_sent]; rfl
  · rw [handled (State.answerDiscovery_restarted state below), State.settle_unfinished, reply_sent, State.restartDesk_eq]
  · rw [handled (State.answerDiscovery_failed state reached)]; rfl

/-! ## The Stream Engine's choice -/

section
variable {s : State} {info : RunInfo}

/-- R80, R81, R84: a slot made SENT, with the counter not exhausted before. -/
theorem State.sendCurrent_eq (fresh : s.exhausted = false) (h : BlockHeader) :
    s.sendCurrent h = { s with
      slots := s.slots.set s.current (.sent h s.position s.now ((List.finRange 128).filter fun d => s.desks[d].night.state == .joined))
      current := s.current + 1, repairCount := 0
      position := if s.position < 4294967295 then s.position + 1 else s.position
      exhausted := decide (4294967295 ≤ s.position) } := by
  by_cases below : s.position < 4294967295
  · rw [if_pos below, decide_eq_false (Nat.not_le.2 below), ← fresh]; exact if_pos below
  · rw [if_neg below, decide_eq_true (Nat.not_lt.1 below)]; exact if_neg below

theorem State.newBlockReady_iff (s : State) :
    s.newBlockReady = true ↔ s.exhausted = false ∧ (s.slots[s.current]).isReady = true := by
  simp only [State.newBlockReady, Bool.and_eq_true, Bool.not_eq_true']

/-- R87: a new block is chosen when no repair waits, or the burst is spent. -/
theorem State.chooseBlock_first (h : s.repairQueue = [] ∨ (info.params.repairBurst ≤ s.repairCount ∧ s.newBlockReady = true)) :
    s.chooseBlock info = s.startFirst info := by
  unfold State.chooseBlock
  split
  · rfl
  · next queue =>
    obtain ⟨spent, ready⟩ := h.resolve_left (by rw [queue]; exact fun nil => List.cons_ne_nil _ _ nil)
    rw [if_neg (Nat.not_lt.2 spent), if_pos ready]

/-- R87: a repair is chosen below the burst, or when no new block waits. -/
theorem State.chooseBlock_repair {i : SlotId} {rest : List SlotId} (queue : s.repairQueue = i :: rest)
    (h : s.repairCount < info.params.repairBurst ∨ s.newBlockReady = false) : s.chooseBlock info = s.startRepair info i rest := by
  simp only [State.chooseBlock, queue]
  rcases h with below | notReady
  · rw [if_pos below]
  · simp only [notReady, Bool.false_eq_true, if_false, ite_self]

end

/-- Settles O50: the choice of R87, and the two starts it leads to. -/
theorem streamChoosesAndStarts : Obligations.StreamChoosesAndStarts := by
  refine fun s info => ⟨fun t transmission => ?_, fun idle => ⟨fun h ready fresh turn => ?_, fun i rest queue turn => ?_⟩⟩
  · rw [State.serveStream, transmission]
  · intro s1 s2
    have block : s.newBlockReady = true := s.newBlockReady_iff.2 ⟨fresh, by rw [ready]; rfl⟩
    rw [State.serveStream, idle]
    change s.chooseBlock info = _
    rw [State.chooseBlock_first (turn.imp id fun spent => ⟨spent, block⟩)]
    simp only [State.startFirst, ready, State.sendCurrent_eq fresh]
    rfl
  · intro t
    have turn : s.repairCount < info.params.repairBurst ∨ s.newBlockReady = false := by
      rw [← Bool.not_eq_true, State.newBlockReady_iff]
      rcases turn with below | exhausted | notReady
      · exact .inl below
      · exact .inr fun h => Bool.false_ne_true (h.1.symm.trans exhausted)
      · exact .inr fun h => absurd (notReady.symm.trans h.2) Bool.false_ne_true
    rw [State.serveStream, idle]
    exact State.chooseBlock_repair queue turn

/-! ## NAKs -/

section
variable {s : State} {position : Nat}

theorem State.slotAt_eq (s : State) (position : Nat) :
    s.slotAt position = (List.finRange 64).find? fun i => (s.slots[i]).position? == some position := by
  unfold State.slotAt
  congr 1
  funext i
  cases s.slots[i] <;> rfl

theorem State.slotAt_none (absent : ∀ i : SlotId, (s.slots[i]).position? ≠ some position) : s.slotAt position = none := by
  rw [State.slotAt_eq, List.find?_eq_none]
  exact fun i _ => by simpa using absent i

theorem State.slotAt_some {i : SlotId} (holds : (s.slots[i]).position? = some position)
    (one : ∀ j : SlotId, (s.slots[j]).position? = some position → j = i) : s.slotAt position = some i := by
  rw [State.slotAt_eq, find_finRange_eq_some_iff]
  refine ⟨by simpa using holds, fun j less => ?_⟩
  rw [beq_eq_false_iff_ne]
  exact fun same => absurd less (one j same ▸ lt_irrefl _)

theorem State.repairQueued_iff (s : State) (i : SlotId) : s.repairQueued i = true ↔ i ∈ s.repairQueue := List.contains_iff_mem

theorem State.requestRepair_queued {i : SlotId} (queued : i ∈ s.repairQueue) : s.requestRepair i = s :=
  if_pos ((s.repairQueued_iff i).2 queued)

theorem State.requestRepair_full {i : SlotId} (absent : i ∉ s.repairQueue) (full : 16 ≤ s.repairQueue.length) :
    s.requestRepair i = s.count .repairOverflows :=
  (if_neg (fun h => absent ((s.repairQueued_iff i).1 h))).trans (if_neg (Nat.not_lt.2 full))

theorem State.requestRepair_room {i : SlotId} (absent : i ∉ s.repairQueue) (room : s.repairQueue.length < 16) :
    s.requestRepair i = { s with repairQueue := s.repairQueue ++ [i] } :=
  (if_neg (fun h => absent ((s.repairQueued_iff i).1 h))).trans (if_pos room)

theorem State.takeNak_ignored (absent : ∀ i : SlotId, (s.slots[i]).position? ≠ some position) :
    s.takeNak position = s.count .naksIgnored := by
  rw [State.takeNak, State.slotAt_none absent]

theorem State.takeNak_request {i : SlotId} (holds : (s.slots[i]).position? = some position)
    (one : ∀ j : SlotId, (s.slots[j]).position? = some position → j = i) : s.takeNak position = s.requestRepair i := by
  rw [State.takeNak, State.slotAt_some holds one]

/-- What a whole NAK list can change. -/
theorem State.foldl_takeNak_shape (naks : List Nat) (s : State) :
    ∃ queue counters, naks.foldl State.takeNak s = { s with repairQueue := queue, counters := counters } := by
  induction naks generalizing s with
  | nil => exact ⟨s.repairQueue, s.counters, rfl⟩
  | cons x naks ih =>
    obtain ⟨queue, counters, rest⟩ := ih (s.takeNak x)
    exact ⟨queue, counters, by rw [List.foldl_cons, rest, State.takeNak_eq s x]⟩

@[simp] theorem State.foldl_takeNak_run (naks : List Nat) (s : State) : (naks.foldl State.takeNak s).run = s.run := by
  obtain ⟨_, _, shape⟩ := State.foldl_takeNak_shape naks s
  rw [shape]

@[simp] theorem State.foldl_takeNak_desks (naks : List Nat) (s : State) : (naks.foldl State.takeNak s).desks = s.desks := by
  obtain ⟨_, _, shape⟩ := State.foldl_takeNak_shape naks s
  rw [shape]

end

/-! ## A REPORT's steps -/

theorem Slot.acknowledged_eq (d : DeskId) (p : Nat) (naks : List Nat) :
    Slot.acknowledged d p naks = fun x => match x with
      | .sent h position firstSend waiting =>
        if position < p ∧ position ∉ naks then .sent h position firstSend (waiting.filter (· != d))
        else .sent h position firstSend waiting
      | other => other := by
  funext x
  cases x with
  | sent h position firstSend waiting =>
    have same : (position < p ∧ (!naks.contains position) = true) ↔ (position < p ∧ position ∉ naks) := by
      rw [Bool.not_eq_true', ← Bool.not_eq_true, List.contains_iff_mem]
    exact if_congr same rfl rfl
  | empty | filling | ready => rfl

/-- R104 to R106: the ranges of a REPORT go into the Wanted List, which nothing else of the state feels. -/
theorem State.foldl_insertRanges (info : RunInfo) (l : List Range) (s : State) (present : s.run.info? = some info) :
    l.foldl (fun t r => t.insertWanted r.first r.count) s =
      { s with wanted := l.foldl (fun w r => insertRange info.params.blockCount w r.first r.count) s.wanted } := by
  induction l generalizing s with
  | nil => rfl
  | cons r l ih => rw [List.foldl_cons, State.insertWanted_of_info present]; exact ih _ present

section
variable {s : State} {info : RunInfo} {d : DeskId} {f : ReportFields}

theorem State.takeReport_processed {src : MacAddr} (present : s.run.info? = some info) (known : s.lookup src = some d)
    (tag : f.runTag = info.params.runTag) (joined : s.desks[d].night.state = .joined) (progress : s.run.inProgress = true) :
    s.takeReport src f = s.processReport info d f := by
  simp only [State.takeReport, present, known]
  rw [if_neg (fun h => h tag), if_pos (by rw [(s.isJoined_iff d).2 joined, progress]; rfl)]

theorem State.concludeReport_completes (done : min f.missing info.params.blockCount = 0) (good : f.image = .good) :
    s.concludeReport info d f = ((s.completeDesk d).sendFinish info d false info.params.afterAction, true) := by
  rw [State.concludeReport, if_pos ⟨done, good⟩]

theorem State.concludeReport_fails (bad : f.image = .bad) :
    s.concludeReport info d f = ((s.failDesk d .imageBad).sendFinish info d true .stay, true) := by
  rw [State.concludeReport, if_neg (fun h => by rw [bad] at h; exact ImageStatus.noConfusion h.2), if_pos bad]

theorem State.concludeReport_stays (notBad : f.image ≠ .bad)
    (notDone : ¬ (min f.missing info.params.blockCount = 0 ∧ f.image = .good)) : s.concludeReport info d f = (s, false) := by
  rw [State.concludeReport, if_neg notDone, if_neg notBad]

end

/-- Settles O46: a NAK of each kind, and the steps of a REPORT up to its conclusion. -/
theorem reportProcessedInSteps : Obligations.ReportProcessedInSteps := by
  refine ⟨fun s position => ⟨State.takeNak_ignored, fun i holds one => ?_⟩, ?_⟩
  · rw [State.takeNak_request holds one]
    exact ⟨State.requestRepair_queued, State.requestRepair_full, State.requestRepair_room⟩
  intro r s f paused info deadline d parsed run tag s1 known joined timer s2 s3 s4 s5 missing s6 finish
  have run1 : s1.run = .running paused info deadline := by
    change ((s.count .roomIn).presence r.src).run = _
    rw [State.presence_run, State.count_run, run]
  have applied : (s1.count .reportsTaken).applyReport info d f = s6 := by
    have timer_eq : some ((s1.count .reportsTaken).newTimer info.params.silenceTimeout) = timer := by
      have now : (s1.count .reportsTaken).now = s.now := by
        rw [State.count_now]; exact (State.presence_now ..).trans (State.count_now ..)
      rw [State.newTimer_running ((State.count_run ..).trans run1), now]
    have acknowledged : s2.acknowledge d f.ack f.naks = s3 := by
      rw [State.acknowledge, vector_ofFn_map, Slot.acknowledged_eq] <;> rfl
    have present : (f.naks.foldl State.takeNak s3).run.info? = some info := by
      rw [State.foldl_takeNak_run]
      have run2 : s2.run = s1.run := (State.modifyNight_run (s1.count .reportsTaken) d _).trans (State.count_run ..)
      have run3 : s3.run = s1.run := (State.retire_run _).trans run2
      rw [run3, run1]; rfl
    rw [State.applyReport, timer_eq]
    change State.modifyNight (f.ranges.foldl _ (f.naks.foldl State.takeNak (s2.acknowledge d f.ack f.naks))) _ _ = _
    rw [acknowledged, State.foldl_insertRanges info f.ranges _ present]
  have config : s6.desks[d].config = s1.desks[d].config := by
    have desks5 : s5.desks = s2.desks := (State.foldl_takeNak_desks f.naks s3).trans (State.retire_desks _)
    have desk2 : s2.desks[d].config = s1.desks[d].config := by
      change (State.modifyNight _ d _).desks[d].config = _
      rw [State.modifyNight_desk, if_pos rfl, State.count_desks]
    change (State.modifyNight s5 d _).desks[d].config = _
    rw [State.modifyNight_desk, if_pos rfl]
    simp only [desks5, desk2]
  have processed : exec (.report r) s =
      .next (State.settle s1 (s6.concludeReport info d f).1 (s6.concludeReport info d f).2) := by
    rw [exec_report, reportRule_parsed parsed, State.takeReport_processed (by rw [run1]; rfl) known tag joined (by rw [run1]; rfl), ← applied]
    rfl
  refine ⟨fun done good => ?_, fun bad => ?_, fun notBad notDone => ?_⟩
  · rw [processed, State.concludeReport_completes done good, State.sendFinish, State.completeDesk_desk, if_pos rfl, config]
  · rw [processed, State.concludeReport_fails bad, State.sendFinish, State.failDesk_desk, if_pos rfl, config]
  · rw [processed, State.concludeReport_stays notBad notDone]; rfl

end Sys2Proof.Machine
end

section
/-! SUPPORT. Reading back what was laid out, most significant byte first (10_frame_formats.md), and with it the statements on the boot reply's
bytes (O44) and on the records' layouts (O53). -/

namespace Sys2Proof.Machine

/-! ## Numbers in lists of bytes -/

@[simp] theorem beBytes_length (n v : Nat) : (beBytes n v).length = n := by
  induction n with
  | zero => rfl
  | succ n ih => rw [beBytes, List.length_cons, ih]

@[simp] theorem macBytes_length (a : MacAddr) : (macBytes a).length = 6 := beBytes_length ..

@[simp] theorem ipBytes_length (a : Ipv4) : (ipBytes a).length = 4 := beBytes_length ..

@[simp] theorem boolByte_length (b : Bool) : (boolByte b).length = 1 := rfl

theorem padTo_length {n : Nat} {l : List Byte} (short : l.length ≤ n) : (padTo n l).length = n := by
  rw [padTo, List.length_append, List.length_replicate]
  omega

theorem byteAt_left {a : List Byte} {i : Nat} (inside : i < a.length) (b : List Byte) : byteAt (a ++ b) i = byteAt a i :=
  List.getD_append a b 0 i inside

theorem byteAt_right {a : List Byte} {i : Nat} (beyond : a.length ≤ i) (b : List Byte) : byteAt (a ++ b) i = byteAt b (i - a.length) :=
  List.getD_append_right a b 0 i beyond

/-- Fields before a field do not bear on it. -/
theorem beNat_right {a : List Byte} {i : Nat} (beyond : a.length ≤ i) (b : List Byte) (n : Nat) :
    beNat (a ++ b) i n = beNat b (i - a.length) n := by
  induction n with
  | zero => rfl
  | succ n ih => rw [beNat, beNat, ih, byteAt_right (by omega), Nat.sub_add_comm beyond]

/-- Nor do fields after it. -/
theorem beNat_left {a : List Byte} {i n : Nat} (inside : i + n ≤ a.length) (b : List Byte) : beNat (a ++ b) i n = beNat a i n := by
  induction n with
  | zero => rfl
  | succ n ih => rw [beNat, beNat, ih (by omega), byteAt_left (by omega)]

theorem byteAt_beBytes {m i : Nat} (inside : i < m) (v : Nat) : byteAt (beBytes m v) i = BitVec.ofNat 8 (v / 256 ^ (m - 1 - i)) := by
  induction m generalizing i with
  | zero => omega
  | succ m ih =>
    cases i with
    | zero => rfl
    | succ i =>
      have shift : m + 1 - 1 - (i + 1) = m - 1 - i := by omega
      rw [shift]
      exact ih (by omega)

/-- The first n bytes of a number laid out in m. -/
theorem beNat_beBytes_first {m n v : Nat} (inside : n ≤ m) (fits : v < 256 ^ m) : beNat (beBytes m v) 0 n = v / 256 ^ (m - n) := by
  induction n with
  | zero => rw [beNat, Nat.sub_zero, Nat.div_eq_of_lt fits]
  | succ n ih =>
    have power : 256 ^ (m - n) = 256 ^ (m - (n + 1)) * 256 := by rw [← pow_succ]; congr 1; omega
    rw [beNat, ih (by omega), Nat.zero_add, byteAt_beBytes (by omega), BitVec.toNat_ofNat, power, ← Nat.div_div_eq_div_mul,
      Nat.sub_sub, Nat.add_comm 1 n]
    omega

@[simp] theorem beNat_beBytes {n v : Nat} (fits : v < 256 ^ n) : beNat (beBytes n v) 0 n = v := by
  rw [beNat_beBytes_first (Nat.le_refl n) fits, Nat.sub_self, pow_zero, Nat.div_one]

/-- A field at the front of what follows the fields before it. -/
theorem beNat_front {n v : Nat} (fits : v < 256 ^ n) (rest : List Byte) : beNat (beBytes n v ++ rest) 0 n = v := by
  rw [beNat_left (by rw [beBytes_length, Nat.zero_add]), beNat_beBytes fits]

theorem byteAt_toNat (l : List Byte) (i : Nat) : (byteAt l i).toNat = beNat l i 1 := by
  rw [beNat, beNat, Nat.zero_mul, Nat.zero_add, Nat.add_zero]

theorem byteAt_front (v : Nat) (rest : List Byte) : byteAt (beBytes 1 v ++ rest) 0 = BitVec.ofNat 8 v := by
  rw [beBytes_one]; rfl

theorem macAt_front (a : MacAddr) (rest : List Byte) : BitVec.ofNat 48 (beNat (macBytes a ++ rest) 0 6) = a := by
  rw [macBytes, beNat_front a.isLt, BitVec.ofNat_toNat, BitVec.setWidth_eq]

theorem ipAt_front (a : Ipv4) (rest : List Byte) : BitVec.ofNat 32 (beNat (ipBytes a ++ rest) 0 4) = a := by
  rw [ipBytes, beNat_front a.isLt, BitVec.ofNat_toNat, BitVec.setWidth_eq]

theorem bits_front {w n : Nat} (a : BitVec w) (width : w = 8 * n) (rest : List Byte) :
    BitVec.ofNat w (beNat (beBytes n a.toNat ++ rest) 0 n) = a := by
  have fits : a.toNat < 256 ^ n := by
    have power : 256 ^ n = 2 ^ w := by rw [width, pow_mul]; norm_num
    rw [power]; exact a.isLt
  rw [beNat_front fits, BitVec.ofNat_toNat, BitVec.setWidth_eq]

/-! ## The boot reply -/

theorem bootOptions_length_le (b : BootReply) : (bootOptions b).length ≤ 28 := by
  have router : (if b.router = 0 then [] else [3, 4] ++ ipBytes b.router : List Byte).length ≤ 6 := by
    split
    · exact Nat.zero_le 6
    · simp
  rw [bootOptions]
  simp only [List.length_append, beBytes_length, ipBytes_length, List.length_cons, List.length_nil]
  omega

theorem bootMessage_length {b : BootReply} (name : b.loaderName.length ≤ 64) : (bootMessage b).length = 300 := by
  refine padTo_length ?_
  have options := bootOptions_length_le b
  have file : (padTo 128 b.loaderName).length = 128 := padTo_length (by omega)
  simp only [List.length_append, file, beBytes_length, ipBytes_length, macBytes_length, List.length_replicate, optionMarker,
    List.length_cons, List.length_nil]
  omega

theorem bootIpHeader_length (b : BootReply) (checksum : Nat) : (bootIpHeader b checksum).length = 20 := by
  simp only [bootIpHeader, List.length_append, beBytes_length, ipBytes_length, List.length_cons, List.length_nil]

/-- R55: the header's words, the checksum's apart. -/
theorem wordSum_bootIpHeader (b : BootReply) {checksum : Nat} (word : checksum < 65536) :
    wordSum (bootIpHeader b checksum) = wordSum (bootIpHeader b 0) + checksum := by
  simp only [bootIpHeader, ipBytes, beBytes, List.cons_append, List.nil_append, wordSum, BitVec.toNat_ofNat]
  omega

theorem wordSum_bootIpHeader_bounds (b : BootReply) : 0 < wordSum (bootIpHeader b 0) ∧ wordSum (bootIpHeader b 0) ≤ 655350 := by
  simp only [bootIpHeader, ipBytes, beBytes, List.cons_append, List.nil_append, wordSum, BitVec.toNat_ofNat]
  omega

theorem carryAround_mod (n : Nat) : carryAround n % 65535 = n % 65535 := by
  simp only [carryAround]
  omega

theorem carryAround_pos {n : Nat} (h : 0 < n) : 0 < carryAround n := by
  simp only [carryAround]
  omega

theorem carryAround_le {n : Nat} (h : n < 1000000) : carryAround n ≤ 65535 := by
  simp only [carryAround]
  omega

/-- R55: the ones' complement sum of the header with its checksum in place is all ones. -/
theorem onesSum_bootIpHeader (b : BootReply) : onesSum (bootIpHeader b (bootIpChecksum b)) = 65535 := by
  obtain ⟨low, high⟩ := wordSum_bootIpHeader_bounds b
  have pos := carryAround_pos low
  have mod := carryAround_mod (wordSum (bootIpHeader b 0))
  have le := carryAround_le (show wordSum (bootIpHeader b 0) < 1000000 by omega)
  rw [bootIpChecksum, onesSum, onesSum, wordSum_bootIpHeader b (by omega)]
  generalize carryAround (wordSum (bootIpHeader b 0)) = c at *
  have mod' := carryAround_mod (wordSum (bootIpHeader b 0) + (65535 - c))
  have pos' := carryAround_pos (show 0 < wordSum (bootIpHeader b 0) + (65535 - c) by omega)
  have le' := carryAround_le (show wordSum (bootIpHeader b 0) + (65535 - c) < 1000000 by omega)
  omega

/-- Settles O44: the pieces of the frame and their lengths. -/
theorem bootReplyLengthsAndChecksum : Obligations.BootReplyLengthsAndChecksum := by
  intro station b name f
  have message := bootMessage_length name
  have header := bootIpHeader_length b (bootIpChecksum b)
  have shape : f = (macBytes b.client ++ macBytes station ++ beBytes 2 0x0800) ++ (bootIpHeader b (bootIpChecksum b)
      ++ (beBytes 2 67 ++ beBytes 2 68 ++ beBytes 2 308 ++ beBytes 2 0 ++ bootMessage b)) := by
    change bootReplyBytes station b = _
    simp only [bootReplyBytes, List.append_assoc]
  have total : beNat (bootIpHeader b (bootIpChecksum b)) 2 2 = 328 := by
    rw [bootIpHeader]
    simp only [List.append_assoc]
    rw [beNat_right (by simp)]
    exact beNat_front (by decide) _
  refine ⟨?_, message, ?_, ?_, ?_, ?_, ?_⟩
  · simp only [shape, List.length_append, macBytes_length, beBytes_length, header, message]
  · rw [shape, ← List.append_assoc, ← List.append_assoc]
    exact List.drop_left' (by simp [header])
  · rw [shape, beNat_right (by simp), beNat_left (by simp [header])]
    simpa using total
  · rw [shape, beNat_right (by simp), beNat_right (by simp [header])]
    simp only [List.append_assoc]
    rw [beNat_right (by simp [header]), beNat_right (by simp [header])]
    simpa [header] using beNat_front (show 308 < 256 ^ 2 by decide) _
  · rw [shape, beNat_right (by simp), beNat_right (by simp [header])]
    simp only [List.append_assoc]
    rw [beNat_right (by simp [header]), beNat_right (by simp [header]), beNat_right (by simp [header])]
    simpa [header] using beNat_front (show 0 < 256 ^ 2 by decide) _
  · rw [shape, List.drop_left' (by simp), List.take_left' header]
    exact onesSum_bootIpHeader b

/-! ## Records -/

theorem AfterAction.byte_back (a : AfterAction) : AfterAction.ofCode? (BitVec.ofNat 8 a.code).toNat = some a := by cases a <;> rfl

theorem EventSet.byte_back (e : EventSet) : (BitVec.ofNat 8 e.toNat).setWidth 7 = e := by
  apply BitVec.eq_of_toNat_eq
  have small := e.isLt
  simp only [BitVec.toNat_setWidth, BitVec.toNat_ofNat]
  omega

/-- The strings of a run parameter record stand after its 51 bytes. -/
theorem RunParams.bytes_shape (p : RunParams) : ∃ fixed, p.bytes = fixed ++ (p.loaderName ++ p.marker) ∧ fixed.length = 51 := by
  apply Exists.intro
  constructor
  · unfold RunParams.bytes
    exact List.append_assoc _ _ _
  · simp only [List.length_append, beBytes_length, macBytes_length, ipBytes_length]

/-- R121: the record is read back from its layout. -/
theorem parseRunParams_bytes {p : RunParams} (range : p.InRange) (blocks : p.blockCount < 2 ^ 24) (lease : p.leaseTime < 2 ^ 32)
    (name : p.loaderName.length < 256) (marker : p.marker.length < 256) : parseRunParams p.bytes = p := by
  obtain ⟨window, wake, discovery, join, silence, report, attempts, polls, restarts, burst, lag, decay, water⟩ := range
  obtain ⟨fixed, shape, length⟩ := p.bytes_shape
  have name_back : (p.bytes.drop 51).take p.loaderName.length = p.loaderName := by
    rw [shape, List.drop_left' length, List.take_left' rfl]
  have marker_back : (p.bytes.drop (51 + p.loaderName.length)).take p.marker.length = p.marker := by
    rw [shape, ← List.append_assoc, List.drop_left' (by rw [List.length_append, length]), List.take_length]
  have name_read : (byteAt p.bytes 49).toNat = p.loaderName.length := by
    rw [byteAt_toNat]
    unfold RunParams.bytes
    simp only [List.append_assoc, beNat_right, beBytes_length, macBytes_length, ipBytes_length, Nat.reduceLeDiff, Nat.reduceSub]
    exact beNat_front name _
  have marker_read : (byteAt p.bytes 50).toNat = p.marker.length := by
    rw [byteAt_toNat]
    unfold RunParams.bytes
    simp only [List.append_assoc, beNat_right, beBytes_length, macBytes_length, ipBytes_length, Nat.reduceLeDiff, Nat.reduceSub]
    exact beNat_front marker _
  unfold parseRunParams
  rw [name_read, marker_read, name_back, marker_back]
  unfold RunParams.bytes
  simp only [macAt, ipAt, List.append_assoc, beNat_right, byteAt_right, beBytes_length, macBytes_length, ipBytes_length, Nat.reduceLeDiff,
    Nat.reduceSub, macAt_front, ipAt_front]
  simp only [bits_front p.runTag (n := 2) rfl, bits_front p.imageCheck (n := 4) rfl, byteAt_front, AfterAction.byte_back, EventSet.byte_back,
    Option.getD_some]
  simp (disch := omega) only [beNat_front]

theorem RunParams.withDefaults_of_inRange {p : RunParams} (range : p.InRange) : p.withDefaults = p := by
  obtain ⟨burst, decay, water⟩ : p.repairBurst ≠ 0 ∧ p.decayInterval ≠ 0 ∧ p.lowWater ≠ 0 := by
    have := range.repairBurst
    have := range.decayInterval
    have := range.lowWater
    omega
  rw [RunParams.withDefaults, if_neg burst, if_neg decay, if_neg water]

theorem takenParams_bytes {p : RunParams} (range : p.InRange) (read : parseRunParams p.bytes = p) : takenParams p.bytes = p := by
  rw [takenParams, read, RunParams.withDefaults_of_inRange range, RunParams.clamped_of_inRange range]

theorem takeField_front {n v : Nat} (fits : v < 256 ^ n) (rest : List Byte) :
    takeField true n (beBytes n v ++ rest) = some (some v, rest) := by
  have length : n ≤ (beBytes n v ++ rest).length := by rw [List.length_append, beBytes_length]; exact Nat.le_add_right ..
  rw [takeField, if_pos rfl, if_pos length, beNat_front fits, List.drop_left' (beBytes_length n v)]

/-- R7: a configuration is read back from its layout. -/
theorem parseDeskFields_bytes {c : DeskConfig} (weight : c.weight < 256) : parseDeskFields 31 c.bytes = some
    { address := some c.address, circuit := some c.circuit.val, weight := some c.weight, lease := some c.lease
      enrolled := some (if c.enrolled then 1 else 0) } := by
  have layout : c.bytes = beBytes 6 c.address.toNat ++ (beBytes 1 c.circuit.val ++ (beBytes 1 c.weight ++ (beBytes 4 c.lease.toNat
      ++ (beBytes 1 (if c.enrolled then 1 else 0) ++ [])))) := by
    cases enrolled : c.enrolled <;>
      simp only [DeskConfig.bytes, macBytes, ipBytes, boolByte, enrolled, List.append_assoc, List.append_nil] <;> rfl
  have circuit := c.circuit.isLt
  have enrolled : (if c.enrolled then 1 else 0) < 256 ^ 1 := by split <;> decide
  have named : ∀ i < 5, (31 : Byte).getLsbD i = true := by decide
  simp only [parseDeskFields, layout, named 0 (by decide), named 1 (by decide), named 2 (by decide), named 3 (by decide),
    named 4 (by decide), takeField_front (show c.address.toNat < 256 ^ 6 from c.address.isLt),
    takeField_front (show c.circuit.val < 256 ^ 1 by omega), takeField_front (show c.weight < 256 ^ 1 from weight),
    takeField_front (show c.lease.toNat < 256 ^ 4 from c.lease.isLt), takeField_front enrolled, Option.bind_eq_bind,
    Option.bind_some, Option.map_some, BitVec.ofNat_toNat, BitVec.setWidth_eq]

/-- Settles O53: both records are read back from their layouts. -/
theorem recordsReadBack : Obligations.RecordsReadBack :=
  ⟨fun _ range blocks lease name marker =>
    have read := parseRunParams_bytes range blocks lease name marker
    ⟨read, takenParams_bytes range read⟩,
   fun _ weight => parseDeskFields_bytes weight⟩

end Sys2Proof.Machine
end

section
/-! SUPPORT. What the commands of the part are made of. A command is a chain of moves, each a small change of the state with the conditions under
which the rules make it; what every command keeps (O2, O54 to O59) is then proved once per move. -/

namespace Sys2Proof.Machine

/-! ## Frames, flags and counters -/

/-- Frames come and go, flags are raised and counters rise, within their bounds; everything else of the state stands. -/
structure State.Traffic (s t : State) : Prop where
  shape : t = { s with
    counters := t.counters, flags := t.flags, replyQueue := t.replyQueue, controlQueue := t.controlQueue, toRoom := t.toRoom
    toUpstream := t.toUpstream, egressPos := t.egressPos, lastServed := t.lastServed, upstreamSending := t.upstreamSending
    roomSending := t.roomSending }
  counters : ∀ k, s.counter k ≤ 4294967295 → s.counter k ≤ t.counter k ∧ t.counter k ≤ 4294967295
  reply : t.replyQueue.length ≤ max s.replyQueue.length 8
  control : t.controlQueue.length ≤ max s.controlQueue.length 16
  toRoom : t.toRoom.length ≤ max s.toRoom.length 64
  toUpstream : t.toUpstream.length ≤ max s.toUpstream.length 64
  quiet : s.run = .standby → s.controlQueue = [] → t.controlQueue = []

/-- Frames and flags alone: no counter moves. -/
theorem State.Traffic.of_counters {s t : State} (shape : t = { s with
      flags := t.flags, replyQueue := t.replyQueue, controlQueue := t.controlQueue, toRoom := t.toRoom
      toUpstream := t.toUpstream, egressPos := t.egressPos, lastServed := t.lastServed, upstreamSending := t.upstreamSending
      roomSending := t.roomSending })
    (reply : t.replyQueue.length ≤ max s.replyQueue.length 8) (control : t.controlQueue.length ≤ max s.controlQueue.length 16)
    (toRoom : t.toRoom.length ≤ max s.toRoom.length 64) (toUpstream : t.toUpstream.length ≤ max s.toUpstream.length 64)
    (quiet : s.run = .standby → s.controlQueue = [] → t.controlQueue = []) : s.Traffic t where
  shape := by
    have counters : t.counters = s.counters := by rw [shape]
    rw [counters]; exact shape
  counters k bound := by
    have same : t.counter k = s.counter k := by rw [State.counter, shape]; rfl
    rw [same]; exact ⟨Nat.le_refl _, bound⟩
  reply := reply
  control := control
  toRoom := toRoom
  toUpstream := toUpstream
  quiet := quiet

theorem State.Traffic.refl (s : State) : s.Traffic s :=
  .of_counters rfl (Nat.le_max_left ..) (Nat.le_max_left ..) (Nat.le_max_left ..) (Nat.le_max_left ..) fun _ quiet => quiet

theorem State.Traffic.run {s t : State} (h : s.Traffic t) : t.run = s.run := by rw [h.shape]

theorem State.Traffic.trans {s t u : State} (first : s.Traffic t) (second : t.Traffic u) : s.Traffic u where
  shape := by
    have shape := second.shape
    rw [first.shape] at shape
    exact shape
  counters k bound := by
    obtain ⟨rise, bound⟩ := first.counters k bound
    obtain ⟨rise', bound'⟩ := second.counters k bound
    exact ⟨rise.trans rise', bound'⟩
  reply := by have := first.reply; have := second.reply; omega
  control := by have := first.control; have := second.control; omega
  toRoom := by have := first.toRoom; have := second.toRoom; omega
  toUpstream := by have := first.toUpstream; have := second.toUpstream; omega
  quiet standby quiet := second.quiet (first.run.trans standby) (first.quiet standby quiet)

theorem State.Traffic.countBy (s : State) (k : Counter) (n : Nat) : s.Traffic (s.countBy k n) where
  shape := rfl
  counters j bound := by
    by_cases same : k.index = j.index
    · have value : (s.countBy k n).counter j = min (s.counter j + n) 4294967295 := by
        rw [State.counter, State.counter, State.countBy, vector_set_get, if_pos same]
        exact congrArg (fun i : Fin 22 => min (s.counters[i] + n) 4294967295) same
      omega
    · have value : (s.countBy k n).counter j = s.counter j := by
        rw [State.counter, State.counter, State.countBy, vector_set_get, if_neg same]
      exact ⟨Nat.le_of_eq value.symm, value ▸ bound⟩
  reply := Nat.le_max_left ..
  control := Nat.le_max_left ..
  toRoom := Nat.le_max_left ..
  toUpstream := Nat.le_max_left ..
  quiet _ quiet := quiet

theorem State.Traffic.count (s : State) (k : Counter) : s.Traffic (s.count k) := .countBy s k 1

theorem State.Traffic.putReply (s : State) (f : ReplyFrame) : s.Traffic (s.putReply f) := by
  by_cases room : s.replyQueue.length < 8
  · rw [State.putReply_room room]
    refine .of_counters rfl ?_ (Nat.le_max_left ..) (Nat.le_max_left ..) (Nat.le_max_left ..) fun _ quiet => quiet
    rw [List.length_append, List.length_singleton]; omega
  · rw [State.putReply_full (Nat.not_lt.1 room)]
    exact .count s _

theorem State.Traffic.answer (s : State) (r : ProtocolFrame) (k : ReqKind) (status : Status) (body : List Byte) :
    s.Traffic (s.answer r k status body) := .putReply s _

theorem State.Traffic.refuse (s : State) (r : ProtocolFrame) (k : ReqKind) (status : Status) : s.Traffic (s.refuse r k status) :=
  .putReply s _

/-- The part puts frames into the Control Queue outside STANDBY only. -/
theorem State.Traffic.putControl {s : State} (run : s.run ≠ .standby) (f : ControlFrame) : s.Traffic (s.putControl f) := by
  by_cases room : s.controlQueue.length < 16
  · rw [State.putControl_room room]
    refine .of_counters rfl (Nat.le_max_left ..) ?_ (Nat.le_max_left ..) (Nat.le_max_left ..) fun standby => absurd standby run
    rw [List.length_append, List.length_singleton]; omega
  · have full : s.putControl f = s.count .controlDrops := if_neg room
    rw [full]; exact .count s _

theorem State.Traffic.raise (s : State) (k : EventKind) (datum : List Byte) : s.Traffic (s.raise k datum) := by
  have flagged : s.Traffic { s with flags := s.flags ||| k.bit } :=
    .of_counters rfl (Nat.le_max_left ..) (Nat.le_max_left ..) (Nat.le_max_left ..) (Nat.le_max_left ..) fun _ quiet => quiet
  unfold State.raise State.sendNotice
  split
  · split
    · exact flagged.trans (.putReply _ _)
    · exact flagged
  · exact flagged

theorem State.Traffic.ringSpace (before s : State) : s.Traffic (State.ringSpace before s) := by
  unfold State.ringSpace
  split
  · split
    · exact .raise s _ _
    · exact .refl s
  · exact .refl s

theorem State.Traffic.passThrough (s : State) (p : Port) (frame : List Byte) : s.Traffic (s.passThrough p frame) := by
  cases p with
  | upstream =>
    rw [State.passThrough_upstream]
    split
    · split
      · refine .of_counters rfl (Nat.le_max_left ..) (Nat.le_max_left ..) ?_ (Nat.le_max_left ..) fun _ quiet => quiet
        rw [List.length_append, List.length_singleton]; omega
      · exact .count s _
    · exact .count s _
  | room =>
    rw [State.passThrough_room]
    split
    · split
      · refine .of_counters rfl (Nat.le_max_left ..) (Nat.le_max_left ..) (Nat.le_max_left ..) ?_ fun _ quiet => quiet
        rw [List.length_append, List.length_singleton]; omega
      · exact .count s _
    · exact .count s _

/-! ## Moves -/

/-- Why a move is made: in the part's own events and those of frames, as a close of the run, by a request of one kind, by the reset input,
or while the part is left alone. -/
inductive Cause where
  | event
  | close
  | request (k : ReqKind)
  | power
  | idle

/-- The record a close leaves, before RUN_CLOSED is raised and the discard is counted (R129). -/
def State.closed (s : State) (info : RunInfo) (deadline : Nat) (cause : CloseCause) : State :=
  { s with
    desks := Vector.ofFn fun d =>
      if s.desks[d].night.state.busy then { s.desks[d] with night := s.desks[d].night.failed .runEnded } else s.desks[d]
    wakeQueue := []
    circuits := Vector.ofFn fun c => (s.circuits[c]).stopped
    repairQueue := [], transmission := none, repairCount := 0, slots := Vector.replicate 64 .empty
    controlQueue := [], run := .closed info cause (deadline - s.now) }

/-- What an ENGINE RESET leaves, before the discard is counted (R161). -/
def State.engineCleared (s : State) : State :=
  { s with
    desks := Vector.ofFn fun d => { s.desks[d] with night := Night.idle }
    circuits := Vector.ofFn fun c => { s.circuits[c] with load := 0, gapTimer := none, decayTimer := none }
    wakeQueue := [], slots := Vector.replicate 64 .empty, tail := 0, current := 0, fill := 0, currentPass := 0
    position := 0, exhausted := false, repairQueue := [], transmission := none, repairCount := 0, wanted := []
    controlQueue := [], run := .standby, flags := 0, noticeEnable := 0 }

/-- A change of one desk's night fields that leaves the Wake Queue alone: the new fields are good where the old ones were, and the timer is the
old one, gone, or set now. -/
structure NightChange (s : State) (info : RunInfo) (old new : Night) : Prop where
  wasNotQueued : old.state ≠ .queued
  notQueued : new.state ≠ .queued
  good : old.Good info.params → new.Good info.params
  timer : new.timer = old.timer ∨ new.timer = none ∨ ∃ seconds, new.timer = some (s.newTimer seconds)

/-- The small changes that every command is made of. -/
inductive Move : Cause → State → State → Prop
  | traffic {s t : State} (h : s.Traffic t) : Move .event s t
  | heard (s : State) (d : DeskId) : Move .event s (s.deskHeard d)
  | scan (s : State) : Move .event s s.scan.1
  | night {s : State} {paused : Bool} {info : RunInfo} {deadline : Nat} {d : DeskId} {f : Night → Night}
      (run : s.run = .running paused info deadline) (change : NightChange s info s.desks[d].night (f s.desks[d].night))
      (joined : s.desks[d].night.state = .joined → (f s.desks[d].night).state = .joined) : Move .event s (s.modifyNight d f)
  | requeue {s : State} {paused : Bool} {info : RunInfo} {deadline : Nat} {d : DeskId} (run : s.run = .running paused info deadline)
      (waking : s.desks[d].night.state = .waking) (below : s.desks[d].night.wakeAttempts < info.params.wakeAttemptLimit) :
      Move .event s { s.modifyNight d (fun n => { n with state := .queued, timer := none }) with wakeQueue := s.wakeQueue ++ [d] }
  | leave {s : State} {paused : Bool} {info : RunInfo} {deadline : Nat} {d : DeskId} {f : Night → Night}
      (run : s.run = .running paused info deadline) (change : NightChange s info s.desks[d].night (f s.desks[d].night)) :
      Move .event s { s.modifyNight d f with slots := Vector.ofFn fun i => (s.slots[i]).without d }
  | acknowledge (s : State) (d : DeskId) (p : Nat) (naks : List Nat) :
      Move .event s { s with slots := Vector.ofFn fun i => (s.slots[i]).acknowledged d p naks }
  | dropTail {s : State} (sent : (s.slots[s.tail]).isSent = true) (unqueued : s.tail ∉ s.repairQueue)
      (idle : s.inTransmission s.tail = false) : Move .event s s.dropTail
  | lag (s : State) (i : SlotId) :
      Move .event s (s.mapNight fun d desk => if (s.slots[i]).waiting.contains d then desk.night.lagged else desk.night)
  | requestRepair {s : State} {i : SlotId} (sent : (s.slots[i]).isSent = true) (absent : i ∉ s.repairQueue)
      (room : s.repairQueue.length < 16) : Move .event s { s with repairQueue := s.repairQueue ++ [i] }
  | repairsLeft {s : State} {q : List SlotId} (left : q.Sublist s.repairQueue) : Move .event s { s with repairQueue := q }
  | startRepair {s : State} {info : RunInfo} {deadline : Nat} {i : SlotId} {rest : List SlotId}
      (run : s.run = .running false info deadline) (link : s.roomLink = true) (queue : s.repairQueue = i :: rest) :
      Move .event s { s with
        repairQueue := rest, transmission := some { slot := i, kind := .repair, next := 0, cut := false }
        repairCount := min (s.repairCount + 1) info.params.repairBurst }
  | transmit {s : State} {t : Transmission} (active : s.run.active = true) (link : s.roomLink = true)
      (cut : t.cut = false ∨ ∃ t0, s.transmission = some t0 ∧ t0.cut = t.cut) (left : t.next < s.slotFragments t.slot) :
      Move .event s { s with transmission := some t }
  | endTransmission (s : State) : Move .event s { s with transmission := none }
  | send {s : State} {h : BlockHeader} (active : s.run.active = true) (ready : s.slots[s.current] = .ready h)
      (fresh : s.exhausted = false) : Move .event s (s.sendCurrent h)
  | wanted (s : State) (f c : Nat) : Move .event s (s.insertWanted f c)
  | wantedTaken (s : State) : Move .event s { s with wanted := [] }
  | circuit {s : State} {c : CircuitId} {x : Circuit} (budget : x.budget = s.circuits[c].budget) (decay : x.decay = s.circuits[c].decay)
      (gap : x.gap = s.circuits[c].gap) (load : x.load ≤ s.circuits[c].load) :
      Move .event s { s with circuits := s.circuits.set c x }
  | hit (s : State) (i : Fin 32) : Move .event s (s.hit i)
  | upstreamLink (s : State) (up : Bool) : Move .event s { s with upstreamLink := up }
  | roomDown {s : State} (up : s.roomLink = true) : Move .event s { s with
      roomLink := false, transmission := if s.run.active then cutTransmission s.transmission else s.transmission }
  | roomUp {s : State} (down : s.roomLink = false) : Move .event s { s with
      roomLink := true, transmission := if s.run.active then uncutTransmission s.transmission else s.transmission }
  | queueDesks {s : State} (progress : s.run.inProgress = true) (first last : Nat) :
      Move .event s (s.queueDesks (s.enqueueDesks first last))
  | discard (s : State) : Move .event s { s with slots := Vector.ofFn fun i => if (s.slots[i]).isFilling then .empty else s.slots[i] }
  | openSlot {s : State} {paused : Bool} {info : RunInfo} {deadline : Nat} {h : BlockHeader} (run : s.run = .running paused info deadline)
      (room : ∃ i : SlotId, s.slots[i] = .empty) (unfilled : ∀ i : SlotId, (s.slots[i]).isFilling = false)
      (length : 1 ≤ h.length ∧ h.length ≤ 8192) (pass : s.currentPass ≤ h.pass ∧ h.pass ≤ 255)
      (sequence : h.sequence < info.params.blockCount) :
      Move .event s { s with slots := s.slots.set s.fill (.filling h (Vector.replicate 8 false)), currentPass := h.pass }
  | write {s : State} {m : Memory} (keeps : Memory.wf s.blockMem[s.fill] = true → Memory.wf m = true) :
      Move .event s { s with blockMem := s.blockMem.set s.fill m }
  | mark {s : State} {h : BlockHeader} {m m' : Vector Bool 8} (filling : s.slots[s.fill] = .filling h m)
      (lacks : mapComplete m' (fragmentCount h.length) = false) : Move .event s { s with slots := s.slots.set s.fill (.filling h m') }
  | blockReady {s : State} {h : BlockHeader} {m : Vector Bool 8} (filling : s.slots[s.fill] = .filling h m) :
      Move .event s { s with slots := s.slots.set s.fill (.ready h), fill := s.fill + 1 }
  | blockFailed {s : State} {h : BlockHeader} {m : Vector Bool 8} (filling : s.slots[s.fill] = .filling h m) :
      Move .event s { s with slots := s.slots.set s.fill .empty }
  | flush (s : State) : Move .event s { s with
      slots := Vector.replicate 64 .empty, repairQueue := [], transmission := none, tail := s.fill, current := s.fill }
  | close {s : State} {paused : Bool} {info : RunInfo} {deadline : Nat} (run : s.run = .running paused info deadline) (cause : CloseCause) :
      Move .close s (s.closed info deadline cause)
  | deskWrite {s : State} {d : DeskId} {c : DeskConfig} (idle : s.desks[d].night.state.busy = false)
      (apart : c.address = s.desks[d].config.address ∨ c.address = 0 ∨ ∀ e : DeskId, e ≠ d → s.desks[e].config.address ≠ c.address)
      (weight : c.weight = s.desks[d].config.weight ∨ (1 ≤ c.weight ∧ c.weight ≤ 255)) :
      Move (.request .deskWrite) s { s with desks := s.desks.set d { s.desks[d] with config := c } }
  | circuitWrite {s : State} {c : CircuitId} {x : Circuit} (budget : x.budget = s.circuits[c].budget ∨ x.budget ≤ 65535)
      (decay : x.decay = s.circuits[c].decay ∨ x.decay ≤ 255) (gap : x.gap = s.circuits[c].gap ∨ x.gap ≤ 10000)
      (load : x.load = s.circuits[c].load) : Move (.request .circuitWrite) s { s with circuits := s.circuits.set c x }
  | matchWrite {s : State} {i : Fin 32} {e : MatchEntry} (offset : e.offset ≤ 120) (hits : e.hits = 0) :
      Move (.request .matchWrite) s { s with matchTable := s.matchTable.set i e }
  | matchLive {s : State} {n : Nat} (few : n ≤ 32) : Move (.request .matchLive) s { s with liveCount := n }
  | slotmapWrite (s : State) (m : Vector Source 16) : Move (.request .slotmapWrite) s { s with slotMap := m, egressPos := 0 }
  | stationWrite {s : State} {l : List MacAddr} (few : l.length ≤ 4) : Move (.request .stationWrite) s { s with stations := l }
  | beginRun {s : State} {p : RunParams} (run : s.run = .standby) (range : p.InRange) (owner : MacAddr) :
      Move (.request .runStart) s (s.beginRun owner p)
  | pauseRun {s : State} {info : RunInfo} {deadline : Nat} (run : s.run = .running false info deadline) :
      Move (.request .runPause) s (s.pauseRun info deadline)
  | resumeRun {s : State} {info : RunInfo} {deadline : Nat} (run : s.run = .running true info deadline) :
      Move (.request .runResume) s (s.resumeRun info deadline)
  | releaseReport {s : State} {info : RunInfo} {cause : CloseCause} {left : Nat} (run : s.run = .closed info cause left) :
      Move (.request .reportRelease) s s.releaseReport
  | engineReset (s : State) : Move (.request .engineReset) s s.engineCleared
  | fullReset (s : State) : Move (.request .fullReset) s s.fullReset
  | clearCounters (s : State) : Move (.request .countersRead) s { s with counters := Vector.replicate 22 0 }
  | clearFlags (s : State) (flags : EventSet) : Move .event s { s with flags := flags }
  | powerOn (s : State) : Move .power s (powerOnEvent s)
  | clock (s : State) (now : Nat) (pending : List Instr) : Move .idle s { s with now := now, pending := pending }

/-- A chain of moves, each for an allowed cause. -/
def Chain (ok : Cause → Prop) (s t : State) : Prop := Relation.ReflTransGen (fun s t => ∃ c, ok c ∧ Move c s t) s t

theorem Chain.refl {ok : Cause → Prop} (s : State) : Chain ok s s := Relation.ReflTransGen.refl

theorem Chain.trans {ok : Cause → Prop} {s t u : State} (first : Chain ok s t) (second : Chain ok t u) : Chain ok s u :=
  Relation.ReflTransGen.trans first second

theorem Chain.one {ok : Cause → Prop} {c : Cause} {s t : State} (allowed : ok c) (move : Move c s t) : Chain ok s t :=
  Relation.ReflTransGen.single ⟨c, allowed, move⟩

/-- What every allowed move keeps, a chain keeps. -/
theorem Chain.keeps {ok : Cause → Prop} {s t : State} (chain : Chain ok s t) {P : State → Prop}
    (move : ∀ c s t, ok c → Move c s t → P s → P t) (start : P s) : P t := by
  induction chain with
  | refl => exact start
  | tail _ last ih =>
    obtain ⟨c, allowed, step⟩ := last
    exact move c _ _ allowed step ih

end Sys2Proof.Machine
end

section
/-! SUPPORT. What keeps a desk's night fields good (R3, R11): one rule per change that the blocks make to them. -/

namespace Sys2Proof.Machine

/-! ## States -/

theorem DeskState.beq_false {x y : DeskState} (h : x ≠ y) : (x == y) = false := beq_eq_false_iff_ne.2 h

theorem DeskState.ne_of_busy {x : DeskState} (busy : x.busy = true) : x ≠ .idle ∧ x ≠ .complete ∧ x ≠ .failed := by
  cases x <;> simp_all [DeskState.busy]

/-! ## Changes of a busy desk that stays busy -/

/-- A busy desk that stays busy has no fail cause and no completion time to answer for. -/
theorem Night.Good.of_busy {p : RunParams} {n m : Night} (h : n.Good p) (busy : n.state.busy = true) (busy' : m.state.busy = true)
    (cause : m.failCause = n.failCause) (completion : m.completion = n.completion)
    (timer : m.timer.isSome = m.state.timed) (joined : m.joinedPos.isSome = (m.state == .joined))
    (attempts : m.wakeAttempts ≤ p.wakeAttemptLimit) (retry : m.state = .queued → m.wakeAttempts < p.wakeAttemptLimit)
    (polls : m.polls ≤ p.pollLimit) (restarts : m.restarts ≤ p.restartLimit) (lag : m.lagCount ≤ 255)
    (missing : ∀ x, m.missing = some x → x ≤ p.blockCount) : m.Good p := by
  obtain ⟨_, notComplete, notFailed⟩ := DeskState.ne_of_busy busy
  obtain ⟨notIdle', notComplete', notFailed'⟩ := DeskState.ne_of_busy busy'
  exact
    { idle := fun idle => absurd idle notIdle'
      timer := timer
      joined := joined
      failed := by rw [cause, h.failed, DeskState.beq_false notFailed, DeskState.beq_false notFailed']
      completion := by rw [completion, h.completion, DeskState.beq_false notComplete, DeskState.beq_false notComplete']
      attempts := attempts
      retry := retry
      polls := polls
      restarts := restarts
      lag := lag
      missing := missing
      complete := fun complete => absurd complete notComplete' }

section
variable {p : RunParams} {n : Night} (h : n.Good p)
include h

/-- R36, R37: a desk heard. -/
theorem Night.Good.heard (awaits : n.awaitsPresence = true) (timer : DeskTimer) :
    Night.Good p { n with state := .awake, timer := some timer } := by
  have busy : n.state.busy = true := by
    rcases n.awaitsPresence_iff.1 awaits with state | ⟨state, -⟩ <;> rw [state] <;> rfl
  have joined : n.joinedPos.isSome = false := by
    rcases n.awaitsPresence_iff.1 awaits with state | ⟨state, -⟩ <;> rw [h.joined, state] <;> rfl
  exact h.of_busy busy rfl rfl rfl rfl joined h.attempts nofun h.polls h.restarts h.lag h.missing

/-- R33: a desk woken. -/
theorem Night.Good.woken (queued : n.state = .queued) (timer : DeskTimer) : (n.woken timer).Good p := by
  have joined : n.joinedPos.isSome = false := by rw [h.joined, queued]; rfl
  exact h.of_busy (by rw [queued]; rfl) rfl rfl rfl rfl joined (h.retry queued) nofun h.polls h.restarts h.lag h.missing

/-- R13: a desk queued again. -/
theorem Night.Good.requeued (waking : n.state = .waking) (below : n.wakeAttempts < p.wakeAttemptLimit) :
    Night.Good p { n with state := .queued, timer := none } := by
  have joined : n.joinedPos.isSome = false := by rw [h.joined, waking]; rfl
  exact h.of_busy (by rw [waking]; rfl) rfl rfl rfl rfl joined h.attempts (fun _ => below) h.polls h.restarts h.lag h.missing

/-- R49, R50: a desk offered. -/
theorem Night.Good.offered (answerable : n.state.answerable = true) (notJoined : n.state ≠ .joined) (timer : DeskTimer) :
    Night.Good p { n with state := .offered, timer := some timer } := by
  have busy : n.state.busy = true := by cases state : n.state <;> simp_all [DeskState.answerable, DeskState.busy]
  have joined : n.joinedPos.isSome = false := by rw [h.joined, DeskState.beq_false notJoined]
  exact h.of_busy busy rfl rfl rfl rfl joined h.attempts nofun h.polls h.restarts h.lag h.missing

/-- R51: a JOINED desk restarted. -/
theorem Night.Good.restarted (joined : n.state = .joined) (below : n.restarts < p.restartLimit) (timer : DeskTimer) :
    Night.Good p { n with restarts := n.restarts + 1, state := .offered, joinedPos := none, timer := some timer } :=
  h.of_busy (by rw [joined]; rfl) rfl rfl rfl rfl rfl h.attempts nofun h.polls below h.lag h.missing

/-- R99: an OFFERED desk joined. -/
theorem Night.Good.joinedNow (offered : n.state = .offered) (position : Nat) (timer : DeskTimer) :
    Night.Good p { n with state := .joined, joinedPos := some position, polls := 0, timer := some timer } :=
  h.of_busy (by rw [offered]; rfl) rfl rfl rfl rfl rfl h.attempts nofun (Nat.zero_le _) h.restarts h.lag h.missing

/-- R16, R104: a JOINED desk's polls and timer set anew. -/
theorem Night.Good.polled (joined : n.state = .joined) {polls : Nat} (bound : polls ≤ p.pollLimit) (timer : DeskTimer) :
    Night.Good p { n with polls := polls, timer := some timer } := by
  have position : n.joinedPos.isSome = (n.state == .joined) := h.joined
  exact h.of_busy (by rw [joined]; rfl) (by rw [joined]; rfl) rfl rfl (by rw [joined]; rfl) position h.attempts
    (fun queued => by rw [joined] at queued; cases queued) bound h.restarts h.lag h.missing

/-- R106: a JOINED desk's report noted. -/
theorem Night.Good.noted (joined : n.state = .joined) {missing : Nat} (bound : missing ≤ p.blockCount) (ack : Nat) (image : ImageStatus) :
    Night.Good p { n with lastAck := some ack, missing := some missing, image := image } :=
  h.of_busy (by rw [joined]; rfl) (by rw [joined]; rfl) rfl rfl h.timer h.joined h.attempts h.retry h.polls h.restarts h.lag
    fun x present => by cases present; exact bound

/-! ## Ends -/

/-- R17: a desk that fails. -/
theorem Night.Good.failed' (busy : n.state.busy = true) (cause : FailCause) : (n.failed cause).Good p := by
  obtain ⟨_, notComplete, _⟩ := DeskState.ne_of_busy busy
  exact
    { idle := nofun
      timer := rfl
      joined := rfl
      failed := rfl
      completion := h.completion.trans (DeskState.beq_false notComplete)
      attempts := h.attempts
      retry := nofun
      polls := h.polls
      restarts := h.restarts
      lag := h.lag
      missing := h.missing
      complete := nofun }

/-- R18, R107: a desk that completes, its last report without missing blocks and with a good image. -/
theorem Night.Good.completed (busy : n.state.busy = true) (missing : n.missing = some 0) (image : n.image = .good) (elapsed : Nat) :
    (n.completed elapsed).Good p := by
  obtain ⟨_, _, notFailed⟩ := DeskState.ne_of_busy busy
  exact
    { idle := nofun
      timer := rfl
      joined := rfl
      failed := h.failed.trans (DeskState.beq_false notFailed)
      completion := rfl
      attempts := h.attempts
      retry := nofun
      polls := h.polls
      restarts := h.restarts
      lag := h.lag
      missing := h.missing
      complete := fun _ => ⟨missing, image⟩ }

/-! ## Changes of single fields -/

/-- R73: a lag count raised. -/
theorem Night.Good.lagged (notIdle : n.state ≠ .idle) : n.lagged.Good p :=
  { idle := fun idle => absurd idle notIdle
    timer := h.timer
    joined := h.joined
    failed := h.failed
    completion := h.completion
    attempts := h.attempts
    retry := h.retry
    polls := h.polls
    restarts := h.restarts
    lag := Nat.min_le_right ..
    missing := h.missing
    complete := h.complete }

/-- R12: a timer held or released. -/
theorem Night.Good.retimed (f : DeskTimer → DeskTimer) : Night.Good p { n with timer := n.timer.map f } :=
  { idle := fun idle => by
      have rest := h.idle idle
      subst rest
      rfl
    timer := (Option.isSome_map ..).trans h.timer
    joined := h.joined
    failed := h.failed
    completion := h.completion
    attempts := h.attempts
    retry := h.retry
    polls := h.polls
    restarts := h.restarts
    lag := h.lag
    missing := h.missing
    complete := h.complete }

end

/-! ## Fresh night fields -/

/-- R3, R20: the IDLE values. -/
theorem Night.Good.idle' (p : RunParams) : Night.idle.Good p where
  idle _ := rfl
  timer := rfl
  joined := rfl
  failed := rfl
  completion := rfl
  attempts := Nat.zero_le _
  retry := nofun
  polls := Nat.zero_le _
  restarts := Nat.zero_le _
  lag := Nat.zero_le _
  missing := nofun
  complete := nofun

/-- R122, R126: a desk queued afresh. -/
theorem Night.Good.queuedAfresh {p : RunParams} (range : p.InRange) : Night.queuedAfresh.Good p where
  idle := nofun
  timer := rfl
  joined := rfl
  failed := rfl
  completion := rfl
  attempts := Nat.zero_le _
  retry _ := range.wakeAttemptLimit.1
  polls := Nat.zero_le _
  restarts := Nat.zero_le _
  lag := Nat.zero_le _
  missing := nofun
  complete := nofun

end Sys2Proof.Machine
end

section
/-! SUPPORT. The part's own events and the frames that reach it, as chains of moves. -/

namespace Sys2Proof.Machine

/-! ## What the tests of the events say -/

theorem State.deskDue_state {s : State} {d : DeskId} {x : DeskState} (due : s.deskDue d x = true) :
    s.run.active = true ∧ s.desks[d].night.state = x := by
  simp only [State.deskDue, Bool.and_eq_true, beq_iff_eq] at due
  exact due.1

/-! ## Retirement -/

/-- R70: what the loss of a tail slot that is SENT, not queued for repair and not in transmission keeps, a retirement keeps. -/
theorem State.retireUpTo_keeps {P : State → Prop}
    (dropped : ∀ t, (t.slots[t.tail]).isSent = true → t.tail ∉ t.repairQueue → t.inTransmission t.tail = false → P t → P t.dropTail)
    (n : Nat) {s : State} (start : P s) : P (State.retireUpTo n s) := by
  induction n generalizing s with
  | zero => exact start
  | succ n ih =>
    unfold State.retireUpTo
    split
    · next retirable =>
      rw [State.tailRetirable_iff, State.Retirable] at retirable
      cases slot : s.slots[s.tail] with
      | sent h position firstSend waiting =>
        rw [slot] at retirable
        obtain ⟨-, unqueued, idle⟩ := retirable
        exact ih (dropped s (by rw [slot]; rfl) unqueued ((s.inTransmission_eq_false_iff s.tail).2 idle) start)
      | empty => rw [slot] at retirable; exact retirable.elim
      | filling h m => rw [slot] at retirable; exact retirable.elim
      | ready h => rw [slot] at retirable; exact retirable.elim
    · exact start

section
variable {ok : Cause → Prop} (event : ok .event)
include event

/-! ## The ring -/

theorem Chain.traffic {s t : State} (h : s.Traffic t) : Chain ok s t := .one event (.traffic h)

theorem Chain.retireUpTo (n : Nat) (s : State) : Chain ok s (State.retireUpTo n s) :=
  State.retireUpTo_keeps (P := fun t => Chain ok s t)
    (fun _ sent unqueued idle chain => chain.trans (.one event (.dropTail sent unqueued idle))) n (.refl s)

theorem Chain.retire (s : State) : Chain ok s s.retire := .retireUpTo event _ s

/-! ## Desks -/

section
variable {s : State} {paused : Bool} {info : RunInfo} {deadline : Nat} (run : s.run = .running paused info deadline)
include run

/-- R69: a desk that leaves the states in which it can be pending leaves the ring. -/
theorem Chain.leave {d : DeskId} {f : Night → Night} (change : NightChange s info s.desks[d].night (f s.desks[d].night)) :
    Chain ok s ((s.modifyNight d f).leaveRing d) :=
  .trans (.one event (.leave run change)) (.retire event _)

theorem Chain.failDesk {d : DeskId} (timed : s.desks[d].night.state.timed = true) (cause : FailCause) :
    Chain ok s (s.failDesk d cause) := by
  have busy : s.desks[d].night.state.busy = true := by
    cases state : s.desks[d].night.state <;> simp_all [DeskState.timed, DeskState.busy]
  refine .trans (.leave event run ⟨?_, (nofun : DeskState.failed ≠ .queued), fun good => good.failed' busy cause, .inr (.inl rfl)⟩)
    (.traffic event (.raise ..))
  intro queued
  rw [queued] at timed
  cases timed

theorem Chain.completeDesk {d : DeskId} (joined : s.desks[d].night.state = .joined) (missing : s.desks[d].night.missing = some 0)
    (image : s.desks[d].night.image = .good) : Chain ok s (s.completeDesk d) := by
  have busy : s.desks[d].night.state.busy = true := by rw [joined]; rfl
  refine .trans (.leave event run ⟨?_, (nofun : DeskState.complete ≠ .queued), fun good => good.completed busy missing image _, .inr (.inl rfl)⟩)
    (.traffic event (.raise ..))
  rw [joined]
  nofun

theorem Chain.putControl (f : ControlFrame) : Chain ok s (s.putControl f) :=
  .traffic event (.putControl (by rw [run]; nofun) f)

end

/-! ## What follows an event -/

section
variable (close : ok .close)
include close

theorem Chain.closeRun (s : State) (cause : CloseCause) : Chain ok s (s.closeRun cause) := by
  cases run : s.run with
  | standby => simp only [State.closeRun, run]; exact .refl s
  | closed => simp only [State.closeRun, run]; exact .refl s
  | running paused info deadline =>
    rw [State.closeRun_running run]
    refine .trans ?_ (.traffic event (.raise ..))
    have counted : Chain ok s { s with counters := (if s.anyFilling then s.count .discards else s).counters } := by
      split
      · exact .traffic event (.count s .discards)
      · exact .refl s
    exact .trans counted (.one close (.close (s := { s with counters := (if s.anyFilling then s.count .discards else s).counters }) run cause))

theorem Chain.evaluateAllDone (s : State) : Chain ok s s.evaluateAllDone := by
  unfold State.evaluateAllDone
  split
  · exact .closeRun event close s _
  · exact .refl s

/-- R77, R128: what follows an event's own work. -/
theorem Chain.settle (before s : State) (finished : Bool) : Chain ok s (State.settle before s finished) := by
  cases finished with
  | false => exact .traffic event (.ringSpace before s)
  | true => exact .trans (.traffic event (.ringSpace before s)) (.evaluateAllDone event close _)

theorem Chain.scanAndSettle (before s : State) : Chain ok s (State.scanAndSettle before s) :=
  .trans (.one event (.scan s)) (.settle event close ..)

/-! ## Timers -/

theorem Chain.decayStep (c : CircuitId) (s : State) : Chain ok s (decayStepEvent c s) := by
  unfold decayStepEvent
  split
  · next info _ t _ _ =>
    split
    · have step : Move .event s { s with circuits := s.circuits.set c ((s.circuits[c]).decayed info.params.decayInterval t) } :=
        .circuit rfl rfl rfl (Nat.sub_le ..)
      exact .trans (.one event step) (.scanAndSettle event close ..)
    · exact .refl s
  · exact .refl s

theorem Chain.gapExpiry (c : CircuitId) (s : State) : Chain ok s (gapExpiryEvent c s) := by
  unfold gapExpiryEvent
  split
  · have step : Move .event s { s with circuits := s.circuits.set c { s.circuits[c] with gapTimer := none } } :=
      .circuit rfl rfl rfl (Nat.le_refl _)
    exact .trans (.one event step) (.scanAndSettle event close ..)
  · exact .refl s

theorem Chain.failAndSettle {s : State} {paused : Bool} {info : RunInfo} {deadline : Nat} (run : s.run = .running paused info deadline)
    {d : DeskId} (timed : s.desks[d].night.state.timed = true) (cause : FailCause) : Chain ok s (s.failAndSettle d cause) :=
  .trans (.failDesk event run timed cause) (.settle event close ..)

theorem Chain.wakeTimeout (d : DeskId) (s : State) : Chain ok s (wakeTimeoutEvent d s) := by
  unfold wakeTimeoutEvent
  split
  · next run =>
    split
    · next due =>
      obtain ⟨-, waking⟩ := State.deskDue_state due
      split
      · next below => exact .trans (.one event (.requeue run waking below)) (.scanAndSettle event close ..)
      · exact .failAndSettle event close run (by rw [waking]; rfl) _
    · exact .refl s
  · exact .refl s

theorem Chain.discoveryTimeout (d : DeskId) (s : State) : Chain ok s (discoveryTimeoutEvent d s) := by
  unfold discoveryTimeoutEvent
  split
  · next due =>
    obtain ⟨active, awake⟩ := State.deskDue_state due
    obtain ⟨_, _, run⟩ := s.run.active_iff.1 active
    exact .failAndSettle event close run (by rw [awake]; rfl) _
  · exact .refl s

theorem Chain.joinTimeout (d : DeskId) (s : State) : Chain ok s (joinTimeoutEvent d s) := by
  unfold joinTimeoutEvent
  split
  · next due =>
    obtain ⟨active, offered⟩ := State.deskDue_state due
    obtain ⟨_, _, run⟩ := s.run.active_iff.1 active
    exact .failAndSettle event close run (by rw [offered]; rfl) _
  · exact .refl s

theorem Chain.silenceTimeout (d : DeskId) (s : State) : Chain ok s (silenceTimeoutEvent d s) := by
  unfold silenceTimeoutEvent
  split
  · next info _ run =>
    split
    · next due =>
      obtain ⟨-, joined⟩ := State.deskDue_state due
      split
      · next below =>
        have change : NightChange s info s.desks[d].night { s.desks[d].night with
            polls := s.desks[d].night.polls + 1, timer := some (s.newTimer info.params.silenceTimeout) } :=
          ⟨by rw [joined]; nofun, by rw [joined]; nofun, fun good => good.polled joined below _, .inr (.inr ⟨_, rfl⟩)⟩
        have polled : Chain ok s (s.modifyNight d fun n =>
            { n with polls := n.polls + 1, timer := some (s.newTimer info.params.silenceTimeout) }) :=
          .one event (.night run change id)
        exact .trans polled (.putControl event ((State.modifyNight_run ..).trans run) _)
      · exact .failAndSettle event close run (by rw [joined]; rfl) _
    · exact .refl s
  · exact .refl s

theorem Chain.windowEnd (s : State) : Chain ok s (windowEndEvent s) := by
  unfold windowEndEvent
  split
  · split
    · exact .closeRun event close s _
    · exact .refl s
  · exact .refl s

end

/-! ## Frames -/

theorem Chain.presence (s : State) (src : MacAddr) : Chain ok s (s.presence src) := by
  unfold State.presence
  split
  · exact .one event (.heard s _)
  · exact .refl s

theorem Chain.acceptFrame (s : State) (p : Port) (src : MacAddr) : Chain ok s (s.acceptFrame p src) := by
  cases p with
  | upstream => exact .traffic event (.count s _)
  | room => exact .trans (.traffic event (.count s _)) (.presence event ..)

theorem Chain.handBack (s : State) (p : Port) (frame : List Byte) : Chain ok s (s.handBack p frame) :=
  .trans (.traffic event (.count s _)) (.traffic event (.passThrough ..))

section
variable {s : State} {paused : Bool} {info : RunInfo} {deadline : Nat} (run : s.run = .running paused info deadline)
include run

theorem Chain.sendBootReply (b : BootReply) : Chain ok s (s.sendBootReply b) := by
  unfold State.sendBootReply
  split
  · exact .trans (.putControl event run _) (.traffic event (.count ..))
  · exact .putControl event run _

theorem Chain.answerDiscovery {d : DeskId} (answerable : (s.desks[d].night.state).answerable = true) (frame : List Byte) (q : Discovery) :
    Chain ok s (s.answerDiscovery frame q info d).1 := by
  by_cases joined : s.desks[d].night.state = .joined
  · by_cases below : s.desks[d].night.restarts < info.params.restartLimit
    · rw [State.answerDiscovery_restarted joined below]
      dsimp only
      have change : NightChange s info s.desks[d].night { s.desks[d].night with
          restarts := s.desks[d].night.restarts + 1, state := .offered, joinedPos := none
          timer := some (s.newTimer info.params.joinTimeout) } :=
        ⟨by rw [joined]; nofun, nofun, fun good => good.restarted joined below _, .inr (.inr ⟨_, rfl⟩)⟩
      have restarted : Chain ok s (s.restartDesk info d) := .leave event run change
      have still : (s.restartDesk info d).run = .running paused info deadline :=
        (State.leaveRing_run ..).trans ((State.modifyNight_run ..).trans run)
      exact restarted.trans (.sendBootReply event still _)
    · rw [State.answerDiscovery_failed joined (Nat.not_lt.1 below)]
      exact .trans (.failDesk event run (by rw [joined]; rfl) _) (.handBack event ..)
  · rw [State.answerDiscovery_offered joined]
    dsimp only
    have notQueued : s.desks[d].night.state ≠ .queued := by
      intro queued
      rw [queued] at answerable
      cases answerable
    have change : NightChange s info s.desks[d].night { s.desks[d].night with
        state := .offered, timer := some (s.newTimer info.params.joinTimeout) } :=
      ⟨notQueued, nofun, fun good => good.offered answerable joined _, .inr (.inr ⟨_, rfl⟩)⟩
    have offered : Chain ok s (s.offerDesk info d) := .one event (.night run change fun h => absurd h joined)
    have still : (s.offerDesk info d).run = .running paused info deadline := (State.modifyNight_run ..).trans run
    exact offered.trans (.sendBootReply event still _)

end

theorem Chain.bootHandle (s : State) (p : Port) (frame : List Byte) : Chain ok s (s.bootHandle p frame).1 := by
  cases p with
  | upstream => exact .handBack event ..
  | room =>
    cases parsed : parseDiscovery frame with
    | none => rw [State.bootHandle_unparsed parsed]; exact .handBack event ..
    | some q =>
      cases qualifies : s.qualifies q with
      | none => rw [State.bootHandle_unqualified parsed qualifies]; exact .handBack event ..
      | some answer =>
        obtain ⟨info, d⟩ := answer
        obtain ⟨⟨_, _, run⟩, -, -, -, answerable, -⟩ := (s.qualifies_eq_some_iff q info d).1 qualifies
        rw [State.bootHandle_qualified parsed qualifies]
        exact .answerDiscovery event run answerable ..

end

end Sys2Proof.Machine
end

section
/-! SUPPORT. Reports, the Stream Engine, the frame path and the links, as chains of moves. -/

namespace Sys2Proof.Machine

section
variable {ok : Cause → Prop} (event : ok .event)
include event

/-! ## Desk frames -/

theorem Chain.takeJoin (s : State) (client : MacAddr) (version : BitVec 16) : Chain ok s (s.takeJoin client version) := by
  cases run : s.run with
  | standby => rw [State.takeJoin_standby run]; exact .traffic event (.count s _)
  | closed info cause left =>
    rw [State.takeJoin_closed run]
    exact .traffic event (.putControl (by rw [run]; nofun) _)
  | running paused info deadline =>
    cases known : s.lookup client with
    | none => rw [State.takeJoin_unknown run known]; exact .putControl event run _
    | some d =>
      by_cases offered : s.desks[d].night.state = .offered
      · rw [State.takeJoin_offered run known offered]
        have change : NightChange s info s.desks[d].night { s.desks[d].night with
            state := .joined, joinedPos := some s.position, polls := 0, timer := some (s.newTimer info.params.silenceTimeout) } :=
          ⟨by rw [offered]; nofun, nofun, fun good => good.joinedNow offered _ _, .inr (.inr ⟨_, rfl⟩)⟩
        have joined : Chain ok s (s.joinDesk info d) := .one event (.night run change fun _ => rfl)
        have still : (s.joinDesk info d).run = .running paused info deadline := (State.modifyNight_run ..).trans run
        exact joined.trans (.putControl event still _)
      · by_cases joined : s.desks[d].night.state = .joined
        · rw [State.takeJoin_joined run known joined]
          exact .putControl event run _
        · rw [State.takeJoin_notReady run known offered joined]
          exact .putControl event run _

theorem Chain.joinRule (r : ProtocolFrame) (s : State) : Chain ok s (joinRule r s) := by
  cases parsed : parseJoin r with
  | none => rw [joinRule_malformed parsed]; exact .traffic event (.count s _)
  | some fields => rw [joinRule_parsed parsed]; exact .takeJoin event s _ _

theorem Chain.insertWanted (l : List Range) (s : State) : Chain ok s (l.foldl (fun t r => t.insertWanted r.first r.count) s) := by
  induction l generalizing s with
  | nil => exact .refl s
  | cons r l ih => exact .trans (.one event (.wanted s _ _)) (ih _)

theorem Chain.takeNak (s : State) (position : Nat) : Chain ok s (s.takeNak position) := by
  unfold State.takeNak
  split
  · next i held =>
    have sent : (s.slots[i]).isSent = true := by
      have holds := List.find?_some ((State.slotAt_eq s position).symm.trans held)
      cases slot : s.slots[i] with
      | sent => rfl
      | empty => rw [slot] at holds; cases holds
      | filling => rw [slot] at holds; cases holds
      | ready => rw [slot] at holds; cases holds
    unfold State.requestRepair
    split
    · exact .refl s
    · next unqueued =>
      rw [State.repairQueued_iff] at unqueued
      split
      · next room => exact .one event (.requestRepair sent unqueued room)
      · exact .traffic event (.count s _)
  · exact .traffic event (.count s _)

theorem Chain.takeNaks (naks : List Nat) (s : State) : Chain ok s (naks.foldl State.takeNak s) := by
  induction naks generalizing s with
  | nil => exact .refl s
  | cons x naks ih => exact .trans (.takeNak event s x) (ih _)

end

/-! ## Frames taken from queues -/

theorem length_le_of_cons {α : Type} {l rest : List α} {x : α} (queue : l = x :: rest) (n : Nat) : rest.length ≤ max l.length n := by
  rw [queue, List.length_cons]
  omega

theorem State.roomSource_has {s : State} {x : Source} (source : s.roomSource = some x) : s.sourceHas x = true := by
  unfold State.roomSource at source
  split at source
  · split at source
    · next has => cases source; exact has
    · split at source
      · next has => cases source; exact has
      · split at source
        · next has => cases source; exact has
        · split at source
          · next has => cases source; exact has
          · cases source
  · cases source

/-! ## Fields that a transmission's start leaves alone -/

theorem State.sendCurrent_run (s : State) (h : BlockHeader) : (s.sendCurrent h).run = s.run := by
  unfold State.sendCurrent State.takePosition
  split <;> rfl

theorem State.sendCurrent_roomLink (s : State) (h : BlockHeader) : (s.sendCurrent h).roomLink = s.roomLink := by
  unfold State.sendCurrent State.takePosition
  split <;> rfl

theorem State.notifySent_run (s : State) (h : BlockHeader) : (s.notifySent h).run = s.run := by
  unfold State.notifySent
  split
  · exact State.raise_run ..
  · rfl

theorem State.notifySent_roomLink (s : State) (h : BlockHeader) : (s.notifySent h).roomLink = s.roomLink := by
  unfold State.notifySent
  split
  · exact State.raise_roomLink ..
  · rfl

/-! ## A REPORT -/

theorem State.foldl_insertRanges_desks (l : List Range) (s : State) :
    (l.foldl (fun t r => t.insertWanted r.first r.count) s).desks = s.desks := by
  induction l generalizing s with
  | nil => rfl
  | cons r l ih => rw [List.foldl_cons, ih, State.insertWanted_desks]

theorem State.foldl_insertRanges_run (l : List Range) (s : State) :
    (l.foldl (fun t r => t.insertWanted r.first r.count) s).run = s.run := by
  induction l generalizing s with
  | nil => rfl
  | cons r l ih => rw [List.foldl_cons, ih, State.insertWanted_run]

section
variable {ok : Cause → Prop} (event : ok .event)
variable {s : State} {paused : Bool} {info : RunInfo} {deadline : Nat} (run : s.run = .running paused info deadline)
  {d : DeskId} (joined : s.desks[d].night.state = .joined) (f : ReportFields)

/-- R104 to R106: what a REPORT leaves in the desk's night fields. -/
theorem State.applyReport_desk : (s.applyReport info d f).desks[d].night =
    { s.desks[d].night with
      polls := 0, timer := some (s.newTimer info.params.silenceTimeout), lastAck := some f.ack
      missing := some (min f.missing info.params.blockCount), image := f.image } := by
  simp only [State.applyReport, State.modifyNight_desk, if_true, State.foldl_insertRanges_desks, State.foldl_takeNak_desks,
    State.acknowledge, State.retire_desks]

include run in
theorem State.applyReport_run : (s.applyReport info d f).run = .running paused info deadline := by
  simp only [State.applyReport, State.modifyNight_run, State.foldl_insertRanges_run, State.foldl_takeNak_run, State.acknowledge,
    State.retire_run, run]

include event run joined in
theorem Chain.applyReport : Chain ok s (s.applyReport info d f) := by
  have touch : NightChange s info s.desks[d].night
      { s.desks[d].night with polls := 0, timer := some (s.newTimer info.params.silenceTimeout) } :=
    ⟨by rw [joined]; nofun, by rw [joined]; nofun, fun good => good.polled joined (Nat.zero_le _) _, .inr (.inr ⟨_, rfl⟩)⟩
  have touched : Chain ok s (s.modifyNight d fun n => { n with polls := 0, timer := some (s.newTimer info.params.silenceTimeout) }) :=
    .one event (.night run touch id)
  have acknowledged (t : State) : Chain ok t (t.acknowledge d f.ack f.naks) :=
    .trans (.one event (.acknowledge t d f.ack f.naks)) (.retire event _)
  have noted (u : State) (run' : u.run = .running paused info deadline) (joined' : u.desks[d].night.state = .joined) :
      Chain ok u (u.modifyNight d fun n =>
        { n with lastAck := some f.ack, missing := some (min f.missing info.params.blockCount), image := f.image }) :=
    .one event (.night run' ⟨by rw [joined']; nofun, by rw [joined']; nofun,
      fun good => good.noted joined' (Nat.min_le_right ..) _ _, .inl rfl⟩ id)
  unfold State.applyReport
  refine touched.trans ((acknowledged _).trans ((Chain.takeNaks event f.naks _).trans ((Chain.insertWanted event f.ranges _).trans
    (noted _ ?_ ?_))))
  · simp only [State.foldl_insertRanges_run, State.foldl_takeNak_run, State.acknowledge, State.retire_run, State.modifyNight_run, run]
  · simp only [State.foldl_insertRanges_desks, State.foldl_takeNak_desks, State.acknowledge, State.retire_desks, State.modifyNight_desk,
      if_true, joined]

include event run joined in
theorem Chain.concludeReport (missing : s.desks[d].night.missing = some (min f.missing info.params.blockCount))
    (image : s.desks[d].night.image = f.image) : Chain ok s (s.concludeReport info d f).1 := by
  by_cases done : min f.missing info.params.blockCount = 0 ∧ f.image = .good
  · rw [State.concludeReport_completes done.1 done.2]
    dsimp only
    have completed : Chain ok s (s.completeDesk d) :=
      .completeDesk event run joined (by rw [missing, done.1]) (by rw [image, done.2])
    have still : (s.completeDesk d).run = .running paused info deadline := (State.completeDesk_run ..).trans run
    exact completed.trans (.putControl event still _)
  · by_cases bad : f.image = .bad
    · rw [State.concludeReport_fails bad]
      dsimp only
      have failed : Chain ok s (s.failDesk d .imageBad) := .failDesk event run (by rw [joined]; rfl) _
      have still : (s.failDesk d .imageBad).run = .running paused info deadline := (State.failDesk_run ..).trans run
      exact failed.trans (.putControl event still _)
    · rw [State.concludeReport_stays bad done]
      exact .refl s

include event run joined in
theorem Chain.processReport (close : ok .close) : Chain ok s (s.processReport info d f) := by
  refine .trans ?_ (.settle event close ..)
  have counted : Chain ok s (s.count .reportsTaken) := .traffic event (.count s _)
  have run' : (s.count .reportsTaken).run = .running paused info deadline := (State.count_run ..).trans run
  have joined' : (s.count .reportsTaken).desks[d].night.state = .joined := by rw [State.count_desks]; exact joined
  have applied := Chain.applyReport event run' joined' f
  refine counted.trans (applied.trans (.concludeReport event (State.applyReport_run run' f) ?_ f ?_ ?_))
  · rw [State.applyReport_desk]; exact joined'
  · rw [State.applyReport_desk]
  · rw [State.applyReport_desk]

end

section
variable {ok : Cause → Prop} (event : ok .event)
include event

theorem Chain.takeReport (close : ok .close) (s : State) (src : MacAddr) (f : ReportFields) : Chain ok s (s.takeReport src f) := by
  unfold State.takeReport
  split
  · next info d present _ =>
    have notStandby : s.run ≠ .standby := fun run => by rw [run] at present; cases present
    split
    · exact .traffic event (.count s _)
    · split
      · next processed =>
        rw [Bool.and_eq_true, State.isJoined_iff] at processed
        obtain ⟨joined, progress⟩ := processed
        cases run : s.run with
        | standby => exact absurd run notStandby
        | closed => rw [run] at progress; cases progress
        | running paused info' deadline =>
          rw [run] at present
          cases present
          exact .processReport event run joined f close
      · split
        · exact .trans (.traffic event (.count s _)) (.traffic event (.putControl (by rw [State.count_run]; exact notStandby) _))
        · exact .traffic event (.count s _)
  · exact .traffic event (.count s _)

theorem Chain.reportRule (close : ok .close) (r : ProtocolFrame) (s : State) : Chain ok s (reportRule r s) := by
  cases parsed : parseReport r with
  | none => rw [reportRule_malformed parsed]; exact .traffic event (.count s _)
  | some f => rw [reportRule_parsed parsed]; exact .takeReport event close s _ f

theorem Chain.deskFrameRule (close : ok .close) (kind : Nat) (r : ProtocolFrame) (s : State) : Chain ok s (deskFrameRule kind r s) := by
  unfold Machine.deskFrameRule
  split
  · exact .joinRule event r s
  · split
    · exact .reportRule event close r s
    · exact .traffic event (.count s _)

/-! ## The Stream Engine -/

section
variable {s : State} {info : RunInfo} (active : s.run.active = true) (link : s.roomLink = true)
include active link

theorem Chain.handFragment {t : Transmission} (cut : t.cut = false ∨ ∃ t0, s.transmission = some t0 ∧ t0.cut = t.cut) :
    Chain ok s (s.handFragment info t).1 := by
  unfold State.handFragment
  split
  · dsimp only
    unfold State.endTransmission
    dsimp only
    have ended : Chain ok s (State.retire { s with transmission := none }) := .trans (.one event (.endTransmission s)) (.retire event _)
    split
    · exact ended.trans (.traffic event (.raise ..))
    · exact ended
  · next left =>
    exact .one event (.transmit (t := { t with next := t.next + 1 }) active link cut (Nat.not_le.1 left))

theorem Chain.startFirst (ready : s.newBlockReady = true) : Chain ok s (s.startFirst info).1 := by
  obtain ⟨fresh, isReady⟩ := s.newBlockReady_iff.1 ready
  unfold State.startFirst
  split
  · next h slot =>
    have sent : Chain ok s (s.sendCurrent h) := .one event (.send active slot fresh)
    have counted := sent.trans (.traffic event (.count (s.sendCurrent h) .firstTransmissions))
    have noted : Chain ok s (((s.sendCurrent h).count .firstTransmissions).notifySent h) := by
      unfold State.notifySent
      split
      · exact counted.trans (.traffic event (.raise ..))
      · exact counted
    refine noted.trans (.handFragment event ?_ ?_ (.inl rfl))
    · rw [State.notifySent_run, State.count_run, State.sendCurrent_run]; exact active
    · rw [State.notifySent_roomLink, State.count_roomLink, State.sendCurrent_roomLink]; exact link
  · next other =>
    cases slot : s.slots[s.current] with
    | ready h => exact absurd slot (other h)
    | empty => rw [slot] at isReady; cases isReady
    | filling => rw [slot] at isReady; cases isReady
    | sent => rw [slot] at isReady; cases isReady

end

theorem Chain.startRepair {s : State} {info : RunInfo} {deadline : Nat} (run : s.run = .running false info deadline)
    (link : s.roomLink = true) {i : SlotId} {rest : List SlotId} (queue : s.repairQueue = i :: rest) :
    Chain ok s (s.startRepair info i rest).1 := by
  unfold State.startRepair
  dsimp only
  refine .trans (.one event (.startRepair run link queue)) (.trans (.retire event _) (.trans (.traffic event (.count _ .repairs))
    (.handFragment event ?_ ?_ (.inl rfl))))
  · rw [State.count_run, State.retire_run]
    exact s.run.active_iff.2 ⟨_, _, run⟩
  · rw [State.count_roomLink, State.retire_roomLink]
    exact link

/-- R83, R87: what the engine does with a frame opportunity that it has offered a frame for. -/
theorem Chain.serveStream {s : State} {info : RunInfo} {deadline : Nat} (run : s.run = .running false info deadline)
    (offers : s.streamOffers = true) : Chain ok s (s.serveStream info).1 := by
  have active : s.run.active = true := s.run.active_iff.2 ⟨_, _, run⟩
  obtain ⟨-, link, offered⟩ := s.streamOffers_iff.1 offers
  cases transmission : s.transmission with
  | some t =>
    have hands : s.serveStream info = s.handFragment info t := by rw [State.serveStream, transmission]
    rw [hands]
    exact .handFragment event active link (.inr ⟨t, transmission, rfl⟩)
  | none =>
    have chooses : s.serveStream info = s.chooseBlock info := by rw [State.serveStream, transmission]
    rw [chooses]
    cases queue : s.repairQueue with
    | nil =>
      have ready : s.newBlockReady = true := by
        rcases offered with sending | block | waiting
        · exact absurd transmission sending
        · exact s.newBlockReady_iff.2 block
        · exact absurd queue waiting
      rw [State.chooseBlock_first (.inl queue)]
      exact .startFirst event active link ready
    | cons i rest =>
      by_cases spent : info.params.repairBurst ≤ s.repairCount ∧ s.newBlockReady = true
      · rw [State.chooseBlock_first (.inr spent)]
        exact .startFirst event active link spent.2
      · have turn : s.repairCount < info.params.repairBurst ∨ s.newBlockReady = false := by
          rw [not_and_or, Nat.not_le, Bool.not_eq_true] at spent
          exact spent
        rw [State.chooseBlock_repair queue turn]
        exact .startRepair event run link queue

/-! ## The Room egress -/

theorem Chain.handRoom (s : State) (frame : List Byte) : Chain ok s (s.handRoom frame) :=
  .traffic event (.of_counters rfl (Nat.le_max_left ..) (Nat.le_max_left ..) (Nat.le_max_left ..) (Nat.le_max_left ..) fun _ quiet => quiet)

theorem Chain.serveRoom {s : State} {x : Source} (has : s.sourceHas x = true) : Chain ok s (s.serveRoom x).1 := by
  cases x with
  | pass =>
    cases queue : s.toRoom with
    | nil => rw [State.sourceHas, queue] at has; cases has
    | cons frame rest =>
      rw [State.serveRoom_pass queue]
      exact .traffic event (.of_counters rfl (Nat.le_max_left ..) (Nat.le_max_left ..) (length_le_of_cons queue _) (Nat.le_max_left ..)
        fun _ quiet => quiet)
  | control =>
    cases queue : s.controlQueue with
    | nil => rw [State.sourceHas, queue] at has; cases has
    | cons f rest =>
      have popped : Chain ok s { s with controlQueue := rest, roomSending := some (f.bytes s.station), egressPos := s.egressPos + 1 } := by
        refine .traffic event (.of_counters rfl (Nat.le_max_left ..) (length_le_of_cons queue _) (Nat.le_max_left ..) (Nat.le_max_left ..)
          fun _ quiet => ?_)
        rw [queue] at quiet
        cases quiet
      rw [State.serveRoom_control queue]
      split
      · exact popped.trans (.one event (.scan _))
      · exact popped
  | stream =>
    obtain ⟨active, -⟩ := s.streamOffers_iff.1 has
    obtain ⟨info, deadline, run⟩ := s.run.active_iff.1 active
    simp only [State.serveRoom, run]
    exact .trans (.serveStream event run has) (.handRoom event ..)

theorem Chain.roomOpportunity (close : ok .close) (s : State) : Chain ok s (roomOpportunityEvent s) := by
  unfold roomOpportunityEvent
  split
  · next source => exact .trans (.serveRoom event (State.roomSource_has source)) (.settle event close ..)
  · exact .refl s

/-! ## The Upstream egress and the ends of frames -/

theorem Chain.upstreamOpportunity (s : State) : Chain ok s (upstreamOpportunityEvent s) := by
  unfold upstreamOpportunityEvent
  split
  · split
    · next queue =>
      exact .traffic event (.of_counters rfl (length_le_of_cons queue _) (Nat.le_max_left ..) (Nat.le_max_left ..) (Nat.le_max_left ..)
        fun _ quiet => quiet)
    · exact .refl s
  · split
    · next queue =>
      exact .traffic event (.of_counters rfl (Nat.le_max_left ..) (Nat.le_max_left ..) (Nat.le_max_left ..) (length_le_of_cons queue _)
        fun _ quiet => quiet)
    · exact .refl s
  · exact .refl s

theorem Chain.frameSent (p : Port) (s : State) : Chain ok s (frameSentEvent p s) := by
  have taken (up down : Option (List Byte)) : s.Traffic { s with upstreamSending := up, roomSending := down } :=
    .of_counters rfl (Nat.le_max_left ..) (Nat.le_max_left ..) (Nat.le_max_left ..) (Nat.le_max_left ..) fun _ quiet => quiet
  cases p with
  | upstream =>
    unfold frameSentEvent
    dsimp only
    split
    · exact .traffic event ((taken none s.roomSending).trans (.count ..))
    · exact .refl s
  | room =>
    unfold frameSentEvent
    dsimp only
    split
    · exact .traffic event ((taken s.upstreamSending none).trans (.count ..))
    · exact .refl s

/-! ## Links -/

theorem Chain.linkDown (p : Port) (s : State) : Chain ok s (linkDownEvent p s) := by
  cases p with
  | upstream =>
    unfold linkDownEvent
    dsimp only
    split
    · refine .trans (.traffic event (.countBy s .roomDropped s.toUpstream.length)) ?_
      have counted : Chain ok (s.countBy .roomDropped s.toUpstream.length) (if s.upstreamSending.isSome then
          (s.countBy .roomDropped s.toUpstream.length).count .upstreamDropped else s.countBy .roomDropped s.toUpstream.length) := by
        split
        · exact .traffic event (.count ..)
        · exact .refl _
      refine counted.trans ?_
      generalize (if s.upstreamSending.isSome then _ else _ : State) = t
      have emptied : t.Traffic { t with toUpstream := [], upstreamSending := none } :=
        .of_counters rfl (Nat.le_max_left ..) (Nat.le_max_left ..) (Nat.le_max_left ..) (Nat.zero_le _) fun _ quiet => quiet
      exact .trans (.traffic event emptied) (.one event (.upstreamLink { t with toUpstream := [], upstreamSending := none } false))
    · exact .refl s
  | room =>
    unfold linkDownEvent
    dsimp only
    split
    · next up =>
      refine .trans (.traffic event (.countBy s .upstreamDropped s.toRoom.length)) ?_
      have counted : (s.countBy .upstreamDropped s.toRoom.length).Traffic (if s.roomSending.isSome then
          (s.countBy .upstreamDropped s.toRoom.length).count .roomDropped else s.countBy .upstreamDropped s.toRoom.length) := by
        split
        · exact .count ..
        · exact .refl _
      refine .trans (.traffic event counted) ?_
      generalize later : (if s.roomSending.isSome then _ else _ : State) = t at counted
      have run : t.run = s.run := counted.run
      have link : t.roomLink = true := by rw [counted.shape]; exact up
      have record : t.transmission = s.transmission := by rw [counted.shape]; rfl
      have emptied : t.Traffic { t with toRoom := [], roomSending := none } :=
        .of_counters rfl (Nat.le_max_left ..) (Nat.le_max_left ..) (Nat.zero_le _) (Nat.le_max_left ..) fun _ quiet => quiet
      rw [← run, ← record]
      exact .trans (.traffic event emptied) (.one event (.roomDown (s := { t with toRoom := [], roomSending := none }) link))
    · exact .refl s

theorem Chain.linkUp (p : Port) (s : State) : Chain ok s (linkUpEvent p s) := by
  cases p with
  | upstream => exact .one event (.upstreamLink s true)
  | room =>
    unfold linkUpEvent
    dsimp only
    split
    · exact .refl s
    · next down => exact .one event (.roomUp (Bool.eq_false_iff.2 down))

/-! ## Classification -/

theorem Chain.bootEvent (close : ok .close) (s : State) (p : Port) (frame : List Byte) : Chain ok s (s.bootEvent p frame) :=
  .trans (.bootHandle event s p frame) (.settle event close ..)

theorem Chain.classify (close : ok .close) (s : State) (p : Port) (frame : List Byte) : Chain ok s (s.classify p frame) := by
  unfold State.classify
  split
  · exact .traffic event (.passThrough ..)
  · next i _ =>
    have hit : Chain ok s (s.hit i) := .one event (.hit s i)
    split
    · exact hit.trans (.traffic event (.passThrough ..))
    · exact hit.trans (.traffic event (.count ..))
    · exact hit.trans (.bootEvent event close ..)

theorem Chain.bootHit (s : State) (p : Port) (frame : List Byte) : Chain ok s (s.bootHit p frame) := by
  unfold State.bootHit
  split
  · split
    · exact .one event (.hit s _)
    · exact .refl s
  · exact .refl s

theorem Chain.bootDiscovery (close : ok .close) (p : Port) (frame : List Byte) (s : State) : Chain ok s (bootDiscoveryEvent p frame s) :=
  .trans (.acceptFrame event s p _) (.trans (.bootHit event _ p frame) (.bootEvent event close ..))

end

end Sys2Proof.Machine
end

section
/-! SUPPORT. The management requests as chains of moves. -/

namespace Sys2Proof.Machine

/-! ## The numbers that bodies carry -/

theorem beNat_lt (l : List Byte) (i n : Nat) : beNat l i n < 256 ^ n := by
  induction n with
  | zero => exact Nat.one_pos
  | succ n ih =>
    have byte := (byteAt l (i + n)).isLt
    rw [beNat, pow_succ]
    omega

theorem takeField_lt {named : Bool} {n : Nat} {l rest : List Byte} {x : Option Nat} (taken : takeField named n l = some (x, rest)) :
    ∀ v, x = some v → v < 256 ^ n := by
  intro v present
  unfold takeField at taken
  split at taken
  · split at taken
    · cases taken
      cases present
      exact beNat_lt ..
    · cases taken
  · cases taken
    cases present

/-- R7: a surge weight is carried in one byte. -/
theorem parseDeskFields_weight {mask : Byte} {l : List Byte} {f : DeskFields} (parsed : parseDeskFields mask l = some f) :
    ∀ w, f.weight = some w → w ≤ 255 := by
  simp only [parseDeskFields, Option.bind_eq_bind, Option.bind_eq_some_iff, Prod.exists] at parsed
  obtain ⟨_, _, -, _, _, -, weight, _, taken, _, _, -, _, _, -, fields⟩ := parsed
  cases fields
  intro w present
  exact Nat.le_of_lt_succ (takeField_lt taken w present)

/-- R22: the fields of a circuit are carried in two bytes, one and two. -/
theorem parseCircuitFields_lt {mask : Byte} {l : List Byte} {f : CircuitFields} (parsed : parseCircuitFields mask l = some f) :
    (∀ x, f.budget = some x → x ≤ 65535) ∧ ∀ x, f.decay = some x → x ≤ 255 := by
  simp only [parseCircuitFields, Option.bind_eq_bind, Option.bind_eq_some_iff, Prod.exists] at parsed
  obtain ⟨_, _, budget, _, _, decay, _, _, -, fields⟩ := parsed
  cases fields
  exact ⟨fun x present => Nat.le_of_lt_succ (takeField_lt budget x present), fun x present => Nat.le_of_lt_succ (takeField_lt decay x present)⟩

/-! ## What the checks leave -/

/-- R4, R6: the address that a DESK WRITE leaves is its own, none, or no other record's. -/
theorem deskWrite_address_apart {s : State} {d : DeskId} {f : DeskFields} (passes : deskWriteFault s d f = none) :
    ((s.desks[d].config).written f).address = s.desks[d].config.address ∨ ((s.desks[d].config).written f).address = 0 ∨
      ∀ e : DeskId, e ≠ d → s.desks[e].config.address ≠ ((s.desks[d].config).written f).address := by
  cases carried : f.address with
  | none => exact .inl (by rw [DeskConfig.written, carried]; rfl)
  | some a =>
    have address : ((s.desks[d].config).written f).address = a := by rw [DeskConfig.written, carried]; rfl
    rw [address]
    by_cases zero : a = 0
    · exact .inr (.inl zero)
    refine .inr (.inr fun e other same => ?_)
    have duplicate : f.address.any (fun a => a != 0 && (List.finRange 128).any fun e => e != d && s.desks[e].config.address == a) = true := by
      simp only [carried, Option.any_some, Bool.and_eq_true, bne_iff_ne, List.any_eq_true, beq_iff_eq]
      exact ⟨zero, e, List.mem_finRange e, other, same⟩
    rw [deskWriteFault_eq, if_pos duplicate] at passes
    split_ifs at passes

theorem deskWrite_idle {s : State} {d : DeskId} {f : DeskFields} (passes : deskWriteFault s d f = none) :
    s.desks[d].night.state.busy = false := by
  rw [deskWriteFault_eq] at passes
  split at passes
  · cases passes
  · next idle => exact Bool.eq_false_iff.2 idle

theorem deskWrite_weight {mask : Byte} {l : List Byte} {f : DeskFields} (parsed : parseDeskFields mask l = some f) (c : DeskConfig) :
    (c.written f).weight = c.weight ∨ (1 ≤ (c.written f).weight ∧ (c.written f).weight ≤ 255) := by
  have bound := parseDeskFields_weight parsed
  cases carried : f.weight with
  | none => exact .inl (by rw [DeskConfig.written, carried]; rfl)
  | some w =>
    have weight : (c.written f).weight = if w = 0 then 1 else w := by rw [DeskConfig.written, carried]; rfl
    have := bound w carried
    refine .inr ?_
    rw [weight]
    split <;> omega

/-- R62: the checks of a BLOCK OPEN that passes them. -/
theorem blockOpenFault_none_iff {s : State} {info : RunInfo} {h : BlockHeader} {i dataLength : Nat}
    (passes : blockOpenFault s info h i dataLength = none) :
    h.sequence < info.params.blockCount ∧ (1 ≤ h.length ∧ h.length ≤ 8192) ∧ s.currentPass ≤ h.pass := by
  rw [blockOpenFault_eq] at passes
  split at passes
  · cases passes
  · split at passes
    · cases passes
    · split at passes
      · cases passes
      · omega

theorem parseBlockHeader_pass (l : List Byte) : (parseBlockHeader l).pass ≤ 255 := Nat.le_of_lt_succ (beNat_lt l 3 1)

section
variable {ok : Cause → Prop} (event : ok .event)
include event

/-! ## The records -/

theorem Chain.deskWrite (own : ok (.request .deskWrite)) (r : ProtocolFrame) (s : State) : Chain ok s (deskWriteRule r s) := by
  unfold deskWriteRule
  dsimp only
  split
  · exact .traffic event (.refuse ..)
  · split
    · exact .traffic event (.refuse ..)
    · exact .traffic event (.refuse ..)
    · next parsed _ =>
      split
      · exact .traffic event (.refuse ..)
      · next passes =>
        exact .trans (.one own (.deskWrite (deskWrite_idle passes) (deskWrite_address_apart passes) (deskWrite_weight parsed _)))
          (.traffic event (.answer ..))

theorem Chain.deskRead (r : ProtocolFrame) (s : State) : Chain ok s (deskReadRule r s) := by
  unfold deskReadRule
  dsimp only
  split
  · exact .traffic event (.refuse ..)
  · split
    · exact .traffic event (.refuse ..)
    · exact .traffic event (.answer ..)

theorem Chain.circuitWrite (own : ok (.request .circuitWrite)) (r : ProtocolFrame) (s : State) : Chain ok s (circuitWriteRule r s) := by
  unfold circuitWriteRule
  dsimp only
  split
  · exact .traffic event (.refuse ..)
  · split
    · exact .traffic event (.refuse ..)
    · exact .traffic event (.refuse ..)
    · next f c parsed _ =>
      obtain ⟨budget, decay⟩ := parseCircuitFields_lt parsed
      refine .trans (.one own (.circuitWrite (c := c) (x := (s.circuits[c]).written f) ?_ ?_ ?_ rfl)) (.traffic event (.answer ..))
      · cases carried : f.budget with
        | none => exact .inl (by rw [Circuit.written, carried]; rfl)
        | some x => exact .inr (by rw [Circuit.written, carried]; exact budget x carried)
      · cases carried : f.decay with
        | none => exact .inl (by rw [Circuit.written, carried]; rfl)
        | some x => exact .inr (by rw [Circuit.written, carried]; exact decay x carried)
      · cases carried : f.gap with
        | none => exact .inl (by rw [Circuit.written, carried]; rfl)
        | some x => exact .inr (by rw [Circuit.written, carried]; exact Nat.min_le_left ..)

theorem Chain.circuitRead (r : ProtocolFrame) (s : State) : Chain ok s (circuitReadRule r s) := by
  unfold circuitReadRule
  dsimp only
  split
  · exact .traffic event (.refuse ..)
  · split
    · exact .traffic event (.refuse ..)
    · exact .traffic event (.answer ..)

theorem Chain.matchWrite (own : ok (.request .matchWrite)) (r : ProtocolFrame) (s : State) : Chain ok s (matchWriteRule r s) := by
  unfold matchWriteRule
  dsimp only
  split
  · exact .traffic event (.refuse ..)
  · split
    · exact .traffic event (.refuse ..)
    · split
      · exact .traffic event (.refuse ..)
      · split
        · exact .traffic event (.refuse ..)
        · next e parsed =>
          simp only [parseMatchEntry, Option.bind_eq_bind, Option.bind_eq_some_iff] at parsed
          obtain ⟨_, -, _, -, _, -, entry⟩ := parsed
          split at entry
          · next offset =>
            cases entry
            exact .trans (.one own (.matchWrite offset rfl)) (.traffic event (.answer ..))
          · cases entry

theorem Chain.matchRead (r : ProtocolFrame) (s : State) : Chain ok s (matchReadRule r s) := by
  unfold matchReadRule
  dsimp only
  split
  · exact .traffic event (.refuse ..)
  · split
    · exact .traffic event (.refuse ..)
    · exact .traffic event (.answer ..)

theorem Chain.matchLive (own : ok (.request .matchLive)) (r : ProtocolFrame) (s : State) : Chain ok s (matchLiveRule r s) := by
  unfold matchLiveRule
  dsimp only
  split
  · exact .traffic event (.refuse ..)
  · split
    · exact .traffic event (.refuse ..)
    · next few => exact .trans (.one own (.matchLive (Nat.not_lt.1 few))) (.traffic event (.answer ..))

theorem Chain.slotmapWrite (own : ok (.request .slotmapWrite)) (r : ProtocolFrame) (s : State) : Chain ok s (slotmapWriteRule r s) := by
  unfold slotmapWriteRule
  dsimp only
  split
  · exact .traffic event (.refuse ..)
  · split
    · exact .traffic event (.refuse ..)
    · split
      · exact .traffic event (.refuse ..)
      · exact .trans (.one own (.slotmapWrite s _)) (.traffic event (.answer ..))

theorem Chain.stationWrite (own : ok (.request .stationWrite)) (r : ProtocolFrame) (s : State) : Chain ok s (stationWriteRule r s) := by
  unfold stationWriteRule
  dsimp only
  split
  · exact .traffic event (.refuse ..)
  · split
    · exact .traffic event (.refuse ..)
    · next few =>
      split
      · exact .traffic event (.refuse ..)
      · refine .trans (.one own (.stationWrite ?_)) (.traffic event (.answer ..))
        rw [parseStations, List.length_map, List.length_range]
        exact Nat.not_lt.1 few

/-! ## The run -/

theorem Chain.runStart (close : ok .close) (own : ok (.request .runStart)) (r : ProtocolFrame) (s : State) :
    Chain ok s (runStartRule r s) := by
  unfold runStartRule
  dsimp only
  split
  · exact .traffic event (.refuse ..)
  · next passes =>
    have run : s.run = .standby := by
      unfold runStartFault at passes
      dsimp only at passes
      split at passes
      · cases passes
      · split at passes
        · cases passes
        · cases passes
        · next run => exact run
    exact .trans (.one own (.beginRun run (takenParams_inRange _) _)) (.trans (.scanAndSettle event close ..) (.traffic event (.answer ..)))

theorem Chain.runPause (own : ok (.request .runPause)) (r : ProtocolFrame) (s : State) : Chain ok s (runPauseRule r s) := by
  unfold runPauseRule
  split
  · next run => exact .trans (.one own (.pauseRun run)) (.traffic event (.answer ..))
  · exact .traffic event (.refuse ..)

theorem Chain.runResume (close : ok .close) (own : ok (.request .runResume)) (r : ProtocolFrame) (s : State) :
    Chain ok s (runResumeRule r s) := by
  unfold runResumeRule
  split
  · next run => exact .trans (.one own (.resumeRun run)) (.trans (.scanAndSettle event close ..) (.traffic event (.answer ..)))
  · exact .traffic event (.refuse ..)

theorem Chain.enqueue (close : ok .close) (r : ProtocolFrame) (s : State) : Chain ok s (enqueueRule r s) := by
  unfold enqueueRule
  dsimp only
  split
  · exact .traffic event (.refuse ..)
  · split
    · exact .traffic event (.refuse ..)
    · next progress =>
      rw [Bool.not_eq_true', Bool.not_eq_false] at progress
      split
      · exact .traffic event (.refuse ..)
      · split
        · exact .traffic event (.refuse ..)
        · split
          · exact .traffic event (.answer ..)
          · exact .trans (.one event (.queueDesks progress _ _)) (.trans (.scanAndSettle event close ..) (.traffic event (.answer ..)))

theorem Chain.runStop (close : ok .close) (r : ProtocolFrame) (s : State) : Chain ok s (runStopRule r s) := by
  unfold runStopRule
  split
  · exact .trans (.traffic event (.answer ..)) (.closeRun event close ..)
  · exact .traffic event (.refuse ..)

theorem Chain.reportRelease (own : ok (.request .reportRelease)) (r : ProtocolFrame) (s : State) : Chain ok s (reportReleaseRule r s) := by
  unfold reportReleaseRule
  split
  · next run => exact .trans (.one own (.releaseReport run)) (.traffic event (.answer ..))
  · exact .traffic event (.refuse ..)

/-! ## The Block Ring -/

theorem Chain.discardFilling (s : State) : Chain ok s s.discardFilling := by
  unfold State.discardFilling
  split
  · exact .trans (.one event (.discard s)) (.traffic event (.count ..))
  · exact .refl s

/-- R64, R65: a fragment of the block being filled. -/
theorem Chain.takeFragment {s : State} {h : BlockHeader} {map : Vector Bool 8} (filling : s.slots[s.fill] = .filling h map) (i : Fin 8)
    (data : List Byte) : Chain ok s (s.takeFragment h map i data).1 := by
  have wrote : Chain ok s { s with blockMem := s.blockMem.set s.fill (memWrite s.blockMem[s.fill] (1024 * i.val) data) } :=
    .one event (.write fun good => memWrite_wf good ..)
  by_cases received : map[i] = true
  · rw [State.takeFragment_duplicate received]
    exact .traffic event (.count ..)
  · rw [Bool.not_eq_true] at received
    cases complete : mapComplete (map.set i true) (fragmentCount h.length) with
    | false =>
      rw [State.takeFragment_partial received data complete]
      exact wrote.trans (.one event (.mark filling complete))
    | true =>
      rw [State.takeFragment_complete received data complete, State.checkBlock_written]
      split
      · exact wrote.trans (.trans (.one event (.blockReady filling)) (.traffic event (.count ..)))
      · exact wrote.trans (.trans (.one event (.blockFailed filling)) (.traffic event (.count ..)))

theorem Chain.ringAnswer {before : State} {o : RingOutcome} (chain : Chain ok before o.1) (r : ProtocolFrame) (k : ReqKind) :
    Chain ok before (ringAnswer before r k o) := by
  refine chain.trans ?_
  unfold Machine.ringAnswer
  split
  · exact .traffic event ((State.Traffic.ringSpace ..).trans (.answer ..))
  · exact .traffic event (.ringSpace ..)

theorem Chain.blockMore (r : ProtocolFrame) (s : State) : Chain ok s (blockMoreRule r s) := by
  unfold blockMoreRule
  dsimp only
  split
  · exact .traffic event (.refuse ..)
  · split
    · next filling =>
      split
      · exact .traffic event (.refuse ..)
      · exact .traffic event (.refuse ..)
      · exact .ringAnswer event (.takeFragment event filling ..) r _
    · exact .traffic event (.refuse ..)

end

/-- A ring that an opened block finds a place in. -/
structure State.Roomy (s : State) : Prop where
  room : ∃ i : SlotId, s.slots[i] = .empty
  unfilled : ∀ i : SlotId, (s.slots[i]).isFilling = false

theorem State.discardFilling_unfilled (s : State) (i : SlotId) : (s.discardFilling.slots[i]).isFilling = false := by
  by_cases some_filling : s.anyFilling = true
  · have slots : s.discardFilling.slots = s.slots.map fun x => if x.isFilling then .empty else x := by
      rw [State.discardFilling_map, if_pos some_filling, State.count_slots]
    simp only [slots, Fin.getElem_fin, Vector.getElem_map]
    split
    · rfl
    · next other => exact Bool.eq_false_iff.2 other
  · rw [State.discardFilling_of_none (Bool.eq_false_iff.2 some_filling)]
    exact Bool.eq_false_iff.2 fun filling => some_filling (s.anyFilling_iff.2 ⟨i, filling⟩)

theorem State.dropTail_roomy {s : State} (unfilled : ∀ i : SlotId, (s.slots[i]).isFilling = false) : s.dropTail.Roomy where
  room := ⟨s.tail, by rw [State.dropTail_slots, if_pos rfl]⟩
  unfilled i := by
    rw [State.dropTail_slots]
    split
    · rfl
    · exact unfilled i

theorem State.Roomy.retireUpTo {s : State} (roomy : s.Roomy) (n : Nat) : (State.retireUpTo n s).Roomy := by
  induction n generalizing s with
  | zero => exact roomy
  | succ n ih =>
    unfold State.retireUpTo
    split
    · exact ih (State.dropTail_roomy roomy.unfilled)
    · exact roomy

/-- R59: a ring of fewer than 64 blocks has an EMPTY slot. -/
theorem State.empty_of_occupancy {s : State} (few : s.occupancy < 64) : ∃ i : SlotId, s.slots[i] = .empty := by
  by_contra none
  rw [not_exists] at none
  have all_held : ∀ x ∈ s.slots.toList, x.held = true := by
    intro x mem
    obtain ⟨i, inside, rfl⟩ := List.mem_iff_getElem.1 mem
    rw [Vector.length_toList] at inside
    have slot : s.slots.toList[i] = s.slots[(⟨i, inside⟩ : SlotId)] := by rw [Vector.getElem_toList]; rfl
    rw [slot]
    cases held : s.slots[(⟨i, inside⟩ : SlotId)] with
    | empty => exact absurd held (none ⟨i, inside⟩)
    | filling | ready | sent => rfl
  have full : s.occupancy = 64 := by
    rw [State.occupancy, List.countP_eq_length.2 all_held, Vector.length_toList]
  omega

section
variable {ok : Cause → Prop} (event : ok .event)
include event

/-- R73: forced retirement, step by step. -/
theorem Chain.forceTail {s : State} {h : BlockHeader} {position firstSend : Nat} {waiting : List DeskId}
    (slot : s.slots[s.tail] = .sent h position firstSend waiting) (idle : s.inTransmission s.tail = false) :
    Chain ok s (s.forceTail h.sequence waiting) := by
  have lagged : Chain ok s (s.mapNight fun d desk => if waiting.contains d then desk.night.lagged else desk.night) := by
    have move := Move.lag s s.tail
    rw [slot] at move
    exact .one event move
  unfold State.forceTail
  dsimp only
  refine lagged.trans (.trans (.one event (.wanted _ h.sequence 1)) ?_)
  generalize before : State.insertWanted _ h.sequence 1 = t
  have slots : t.slots = s.slots := by rw [← before, State.insertWanted_slots, State.mapNight_slots]
  have tail : t.tail = s.tail := by rw [← before, State.insertWanted_tail, State.mapNight_tail]
  have record : t.transmission = s.transmission := by rw [← before, State.insertWanted_transmission, State.mapNight_transmission]
  refine .trans (.one event (.repairsLeft (s := t) (q := t.repairQueue.filter (· != t.tail)) List.filter_sublist))
    (.trans (.one event (.dropTail ?_ ?_ ?_)) (.retire event _))
  · change (t.slots[t.tail]).isSent = true
    simp only [slots, tail, slot]
    rfl
  · change t.tail ∉ t.repairQueue.filter (· != t.tail)
    simp
  · change State.inTransmission { t with repairQueue := _ } t.tail = false
    rw [State.inTransmission_eq_false_iff] at idle ⊢
    rw [tail]
    exact fun x present => idle x (record.symm.trans present)

theorem Chain.openBlock {s : State} {paused : Bool} {info : RunInfo} {deadline : Nat} (run : s.run = .running paused info deadline)
    {h : BlockHeader} (length : 1 ≤ h.length ∧ h.length ≤ 8192) (pass : s.currentPass ≤ h.pass ∧ h.pass ≤ 255)
    (sequence : h.sequence < info.params.blockCount) (i : Fin 8) (data : List Byte) : Chain ok s (s.openBlock info h i data).1 := by
  have discarded := Chain.discardFilling event s
  have unfilled := s.discardFilling_unfilled
  cases found : s.discardFilling.seekSlot info with
  | none => rw [State.openBlock_full found]; exact discarded
  | some s2 =>
    have sought : Chain ok s.discardFilling s2 ∧ s2.Roomy := by
      unfold State.seekSlot State.lagRule at found
      split at found
      · next few => cases found; exact ⟨.refl _, State.empty_of_occupancy few, unfilled⟩
      · split at found
        · next slot =>
          split at found
          · next frees =>
            cases found
            rw [Bool.and_eq_true, Bool.not_eq_true'] at frees
            exact ⟨.forceTail event slot frees.1, State.Roomy.retireUpTo (State.dropTail_roomy (by
              simpa only [State.insertWanted_slots, State.mapNight_slots] using unfilled)) _⟩
          · cases found
        · cases found
    obtain ⟨seek, roomy⟩ := sought
    obtain ⟨fill, currentPass⟩ := State.seekSlot_keeps found
    have run2 : s2.run = .running paused info deadline := by
      have keeps : s2.run = s.discardFilling.run := by
        unfold State.seekSlot State.lagRule at found
        split at found
        · cases found; rfl
        · split at found
          · split at found
            · cases found; rw [State.forceTail_eq]
            · cases found
          · cases found
      rw [keeps, State.discardFilling_run, run]
    rw [State.discardFilling_fill] at fill
    rw [State.discardFilling_currentPass] at currentPass
    rw [State.openBlock_found found]
    have opened : Chain ok s2 { s2 with slots := s2.slots.set s.fill (.filling h (Vector.replicate 8 false)), currentPass := h.pass } := by
      have move := Chain.one event (.openSlot run2 roomy.room roomy.unfilled length (by rw [currentPass]; exact pass) sequence)
      simpa only [fill] using move
    have filling : (s2.slots.set s.fill (.filling h (Vector.replicate 8 false)))[s2.fill] = .filling h (Vector.replicate 8 false) := by
      rw [vector_set_get, if_pos fill.symm]
    refine discarded.trans (seek.trans ?_)
    split
    · refine opened.trans (.trans (.traffic event (.raise ..)) (.takeFragment event ?_ i data))
      simp only [State.raise_slots, State.raise_fill]
      exact filling
    · next same =>
      have equal : h.pass = s2.currentPass := by omega
      rw [equal] at opened
      exact opened.trans (.takeFragment event filling i data)

theorem Chain.blockOpen (r : ProtocolFrame) (s : State) : Chain ok s (blockOpenRule r s) := by
  unfold blockOpenRule
  dsimp only
  split
  · exact .traffic event (.refuse ..)
  · split
    · next run =>
      split
      · exact .traffic event (.refuse ..)
      · exact .traffic event (.refuse ..)
      · next passes _ =>
        obtain ⟨sequence, length, pass⟩ := blockOpenFault_none_iff passes
        exact .ringAnswer event (.openBlock event run length ⟨pass, parseBlockHeader_pass _⟩ sequence ..) r _
    · exact .traffic event (.refuse ..)

theorem Chain.insertSequences (l : List Nat) (s : State) : Chain ok s (l.foldl (fun t q => t.insertWanted q 1) s) := by
  induction l generalizing s with
  | nil => exact .refl s
  | cons q l ih => exact .trans (.one event (.wanted s _ _)) (ih _)

theorem Chain.ringFlush (r : ProtocolFrame) (s : State) : Chain ok s (ringFlushRule r s) := by
  unfold ringFlushRule
  split
  · refine .trans ?_ (.traffic event ((State.Traffic.ringSpace s s.flushRing).trans (.answer ..)))
    unfold State.flushRing
    refine .trans (.insertSequences event s.owedSequences s) ?_
    generalize s.owedSequences.foldl _ s = t
    have counted : Chain ok t { t with counters := t.discardFilling.counters } := by
      rw [State.discardFilling_counters]
      split
      · exact .traffic event (.count t .discards)
      · exact .refl t
    dsimp only
    rw [State.clearRing_eq]
    exact counted.trans (.one event (.flush { t with counters := t.discardFilling.counters }))
  · exact .traffic event (.refuse ..)

/-! ## The Wanted List, the Management Unit and the resets -/

theorem Chain.countersRead (own : ok (.request .countersRead)) (r : ProtocolFrame) (s : State) : Chain ok s (countersReadRule r s) := by
  unfold countersReadRule
  dsimp only
  split
  · exact .traffic event (.refuse ..)
  · split
    · exact .traffic event (.refuse ..)
    · refine .trans ?_ (.traffic event (.answer ..))
      split
      · exact .one own (.clearCounters s)
      · exact .refl s

theorem Chain.eventsClear (r : ProtocolFrame) (s : State) : Chain ok s (eventsClearRule r s) := by
  unfold eventsClearRule
  dsimp only
  split
  · exact .traffic event (.refuse ..)
  · exact .trans (.one event (.clearFlags s _)) (.traffic event (.answer ..))

theorem Chain.engineReset (own : ok (.request .engineReset)) (s : State) : Chain ok s s.engineReset := by
  rw [State.engineReset_eq]
  have counted : Chain ok s { s with counters := (if s.anyFilling then s.count .discards else s).counters } := by
    split
    · exact .traffic event (.count s .discards)
    · exact .refl s
  exact counted.trans (.one own (.engineReset { s with counters := (if s.anyFilling then s.count .discards else s).counters }))

end

/-! ## Every request -/

/-- What a request of a kind may be made of: events, moves of its own kind and, but for REPORT RELEASE, a close. -/
def ReqKind.Allows (k : ReqKind) (c : Cause) : Prop := c = .event ∨ (c = .close ∧ k ≠ .reportRelease) ∨ c = .request k

theorem Chain.requestRule (k : ReqKind) (r : ProtocolFrame) (s : State) : Chain k.Allows s (requestRule k r s) := by
  have event : k.Allows .event := .inl rfl
  have own : k.Allows (.request k) := .inr (.inr rfl)
  have close (other : k ≠ .reportRelease) : k.Allows .close := .inr (.inl ⟨rfl, other⟩)
  cases k with
  | identify => exact .traffic event (.answer ..)
  | deskWrite => exact .deskWrite event own r s
  | deskRead => exact .deskRead event r s
  | circuitWrite => exact .circuitWrite event own r s
  | circuitRead => exact .circuitRead event r s
  | matchWrite => exact .matchWrite event own r s
  | matchRead => exact .matchRead event r s
  | matchLive => exact .matchLive event own r s
  | slotmapWrite => exact .slotmapWrite event own r s
  | slotmapRead => exact .traffic event (.answer ..)
  | stationWrite => exact .stationWrite event own r s
  | runStart => exact .runStart event (close nofun) own r s
  | runPause => exact .runPause event own r s
  | runResume => exact .runResume event (close nofun) own r s
  | runStop => exact .runStop event (close nofun) r s
  | enqueue => exact .enqueue event (close nofun) r s
  | reportRelease => exact .reportRelease event own r s
  | blockOpen => exact .blockOpen event r s
  | blockMore => exact .blockMore event r s
  | ringFlush => exact .ringFlush event r s
  | wantedRead => exact .traffic event (.answer ..)
  | wantedTake => exact .trans (.one event (.wantedTaken s)) (.traffic event (.answer ..))
  | statusRead => exact .traffic event (.answer ..)
  | countersRead => exact .countersRead event own r s
  | eventsClear => exact .eventsClear event r s
  | engineReset => exact .trans (.engineReset event own s) (.traffic event (.answer ..))
  | fullReset => exact .trans (.one own (.fullReset s)) (.traffic event (.answer ..))

theorem Chain.takeRequest (k : ReqKind) (r : ProtocolFrame) (s : State) : Chain k.Allows s (takeRequest k.code r s) := by
  have event : k.Allows .event := .inl rfl
  rcases takeRequest_cases k r s with dropped | refused | taken
  · rw [dropped]; exact .traffic event (.count ..)
  · rw [refused]; exact .traffic event (.putReply ..)
  · rw [taken]; exact .requestRule k r s

end Sys2Proof.Machine
end

section
/-! SUPPORT. Every command as a chain of moves, the parts of a scan, and what follows for every command: O2 and O54 to O56. -/

namespace Sys2Proof.Machine

/-! ## Commands -/

/-- A command that is a request of a kind: its own command, or the arrival of its frame. -/
def Instr.Is (c : Instr) (k : ReqKind) : Prop :=
  (∃ r, c = Instr.ofKind k r) ∨ ∃ frame, c = .frameArrival .upstream true frame ∧ (byteAt frame 15).toNat = k.code

/-- The causes of the part's own events. -/
def Cause.own (c : Cause) : Prop := c = .event ∨ c = .close

/-- What a command can come to. -/
def Instr.Comes (c : Instr) (s t : State) : Prop :=
  (∃ k : ReqKind, Instr.Is c k ∧ Chain k.Allows s t) ∨ Chain Cause.own s t ∨ (c = .powerOn ∧ t = powerOnEvent s)

theorem ReqKind.code_ofCode {n : Nat} {k : ReqKind} (known : ReqKind.ofCode? n = some k) : k.code = n := by
  unfold ReqKind.ofCode? at known
  split at known <;> cases known <;> rfl

theorem Chain.unknownRequest {ok : Cause → Prop} (event : ok .event) {kind : Nat} (unknown : ReqKind.ofCode? kind = none)
    (r : ProtocolFrame) (s : State) : Chain ok s (Machine.takeRequest kind r s) := by
  unfold Machine.takeRequest
  split
  · exact .traffic event (.count ..)
  · split
    · exact .traffic event (.count ..)
    · split
      · exact .traffic event (.putReply ..)
      · rw [unknown]
        exact .traffic event (.putReply ..)

/-- R135 to R137: a frame that reaches a port. -/
theorem Instr.Comes.frameArrival (p : Port) (good : Bool) (frame : List Byte) (s : State) :
    Instr.Comes (.frameArrival p good frame) s (frameArrivalEvent p good frame s) := by
  have event : Cause.own .event := .inl rfl
  have close : Cause.own .close := .inr rfl
  unfold frameArrivalEvent
  split
  · next accepted =>
    obtain rfl : good = true := by
      unfold macAccepts at accepted
      rw [Bool.and_eq_true, Bool.and_eq_true] at accepted
      exact accepted.1.1
    dsimp only
    split
    · cases p with
      | upstream =>
        cases known : ReqKind.ofCode? (frameKind frame) with
        | none => exact .inr (.inl (.trans (.acceptFrame event s .upstream _) (.unknownRequest event known ..)))
        | some k =>
          have code := ReqKind.code_ofCode known
          refine .inl ⟨k, .inr ⟨frame, rfl, code.symm⟩, .trans (.acceptFrame (.inl rfl) s .upstream (macAt frame 6)) ?_⟩
          rw [State.takeOut, ← code]
          exact .takeRequest k ..
      | room => exact .inr (.inl (.trans (.acceptFrame event s .room _) (.deskFrameRule event close ..)))
    · exact .inr (.inl (.trans (.acceptFrame event s p _) (.classify event close ..)))
  · exact .inr (.inl (.traffic event (.count ..)))

/-- Every command is taken to its end, as a chain of moves. -/
theorem exec_comes (c : Instr) (s : State) : ∃ t, exec c s = .next t ∧ Instr.Comes c s t := by
  have event : Cause.own .event := .inl rfl
  have close : Cause.own .close := .inr rfl
  have request (k : ReqKind) (r : ProtocolFrame) : ∃ t, exec (Instr.ofKind k r) s = .next t ∧ Instr.Comes (Instr.ofKind k r) s t :=
    ⟨_, exec_ofKind k r s, .inl ⟨k, .inl ⟨r, rfl⟩, .trans (.acceptFrame (.inl rfl) s .upstream _) (.takeRequest k ..)⟩⟩
  cases c with
  | identify r => exact request .identify r
  | deskWrite r => exact request .deskWrite r
  | deskRead r => exact request .deskRead r
  | circuitWrite r => exact request .circuitWrite r
  | circuitRead r => exact request .circuitRead r
  | matchWrite r => exact request .matchWrite r
  | matchRead r => exact request .matchRead r
  | matchLive r => exact request .matchLive r
  | slotmapWrite r => exact request .slotmapWrite r
  | slotmapRead r => exact request .slotmapRead r
  | stationWrite r => exact request .stationWrite r
  | runStart r => exact request .runStart r
  | runPause r => exact request .runPause r
  | runResume r => exact request .runResume r
  | runStop r => exact request .runStop r
  | enqueue r => exact request .enqueue r
  | reportRelease r => exact request .reportRelease r
  | blockOpen r => exact request .blockOpen r
  | blockMore r => exact request .blockMore r
  | ringFlush r => exact request .ringFlush r
  | wantedRead r => exact request .wantedRead r
  | wantedTake r => exact request .wantedTake r
  | statusRead r => exact request .statusRead r
  | countersRead r => exact request .countersRead r
  | eventsClear r => exact request .eventsClear r
  | engineReset r => exact request .engineReset r
  | fullReset r => exact request .fullReset r
  | powerOn => exact ⟨_, rfl, .inr (.inr ⟨rfl, rfl⟩)⟩
  | linkDown p => exact ⟨_, rfl, .inr (.inl (.linkDown event p s))⟩
  | linkUp p => exact ⟨_, rfl, .inr (.inl (.linkUp event p s))⟩
  | frameArrival p good frame => exact ⟨_, rfl, .frameArrival p good frame s⟩
  | bootDiscovery p frame => exact ⟨_, rfl, .inr (.inl (.bootDiscovery event close p frame s))⟩
  | join r => exact ⟨_, rfl, .inr (.inl (.trans (.acceptFrame event s .room _) (.deskFrameRule event close ..)))⟩
  | report r => exact ⟨_, rfl, .inr (.inl (.trans (.acceptFrame event s .room _) (.deskFrameRule event close ..)))⟩
  | wakeTimeoutExpiry d => exact ⟨_, rfl, .inr (.inl (.wakeTimeout event close d s))⟩
  | discoveryTimeoutExpiry d => exact ⟨_, rfl, .inr (.inl (.discoveryTimeout event close d s))⟩
  | joinTimeoutExpiry d => exact ⟨_, rfl, .inr (.inl (.joinTimeout event close d s))⟩
  | silenceTimeoutExpiry d => exact ⟨_, rfl, .inr (.inl (.silenceTimeout event close d s))⟩
  | decayStep c => exact ⟨_, rfl, .inr (.inl (.decayStep event close c s))⟩
  | gapExpiry c => exact ⟨_, rfl, .inr (.inl (.gapExpiry event close c s))⟩
  | windowEnd => exact ⟨_, rfl, .inr (.inl (.windowEnd event close s))⟩
  | roomFrameOpportunity => exact ⟨_, rfl, .inr (.inl (.roomOpportunity event close s))⟩
  | upstreamFrameOpportunity => exact ⟨_, rfl, .inr (.inl (.upstreamOpportunity event s))⟩
  | frameSent p => exact ⟨_, rfl, .inr (.inl (.frameSent event p s))⟩

theorem Instr.Comes.of_exec {c : Instr} {s t : State} (next : exec c s = .next t) : Instr.Comes c s t := by
  obtain ⟨u, next', comes⟩ := exec_comes c s
  obtain rfl : u = t := Host.Outcome.next.inj (next'.symm.trans next)
  exact comes

/-- A step is a chain of moves, for whatever causes. -/
theorem step_chain {s t : State} (next : step s = .next t) : Chain (fun _ => True) s t := by
  have weaken {ok : Cause → Prop} {u v : State} (chain : Chain ok u v) : Chain (fun _ => True) u v :=
    chain.keeps (P := Chain (fun _ => True) u) (fun _ _ _ _ move sofar => sofar.trans (.one trivial move)) (.refl u)
  unfold step at next
  split at next
  · cases next
    unfold State.idle
    split
    · exact .one (c := .idle) trivial (.clock s (s.now + 1) s.pending)
    · exact .one (c := .idle) trivial (.clock s s.now s.dueEvents)
  · next c rest _ =>
    refine .trans (.one (c := .idle) trivial (.clock s s.now rest)) ?_
    rcases Instr.Comes.of_exec next with ⟨_, -, chain⟩ | chain | ⟨-, power⟩
    · exact weaken chain
    · exact weaken chain
    · rw [power]
      exact .one (c := .power) trivial (.powerOn _)

/-- What every move keeps, a step keeps. -/
theorem step_keeps {P : State → Prop} (move : ∀ c s t, Move c s t → P s → P t) {s t : State} (start : P s) (next : step s = .next t) :
    P t :=
  (step_chain next).keeps (fun c s t _ => move c s t) start

/-! ## The parts of a scan -/

/-- R31, step 1: a desk over budget, before the retirement check and DESK_FAILED. -/
def State.scanFailed (s : State) (d : DeskId) : State :=
  { (s.withoutQueued d).modifyNight d (Night.failed .overBudget) with slots := Vector.ofFn fun i => (s.slots[i]).without d }

/-- R33, steps 1 to 3: a desk woken, before its frame and the charge of its circuit. -/
def State.scanWoken (s : State) (info : RunInfo) (d : DeskId) : State :=
  (s.withoutQueued d).modifyNight d (Night.woken (s.newTimer info.params.wakeTimeout))

/-- R33, steps 5 and 6: a circuit charged at a time. -/
def State.scanCharged (s : State) (now : Nat) (c : CircuitId) (weight : Nat) : State :=
  { s with circuits := s.circuits.set c ((s.circuits[c]).charged now weight) }

theorem State.wakeDesk_parts (s : State) (info : RunInfo) (d : DeskId) :
    s.wakeDesk info d =
      ((s.scanWoken info d).putControl (.wake info.params.runTag s.desks[d].config.address)).scanCharged s.now s.desks[d].config.circuit
        s.desks[d].config.weight := rfl

theorem State.failDesk_parts (s : State) (d : DeskId) :
    (s.withoutQueued d).failDesk d .overBudget =
      (s.scanFailed d).retire.raise .deskFailed (beBytes 1 d.val ++ beBytes 1 FailCause.overBudget.code) := rfl

/-- R30 to R33: what the parts of a scan keep, a scan keeps. Each desk is considered while it is in the Wake Queue, if the queue held it once. -/
theorem State.scan_keeps {P : State → Prop} {s : State}
    (failed : ∀ t info deadline d, t.run = .running false info deadline → (s.wakeQueue.Nodup → d ∈ t.wakeQueue) → P t →
      P (t.scanFailed d))
    (woken : ∀ t info deadline d, t.run = .running false info deadline → (s.wakeQueue.Nodup → d ∈ t.wakeQueue) → P t →
      P (t.scanWoken info d))
    (charged : ∀ t now c weight, P t → P (t.scanCharged now c weight))
    (dropped : ∀ t, (t.slots[t.tail]).isSent = true → t.tail ∉ t.repairQueue → t.inTransmission t.tail = false → P t → P t.dropTail)
    (traffic : ∀ t u, State.Traffic t u → P t → P u) (start : P s) : P s.scan.1 := by
  unfold State.scan
  split
  · next info deadline run =>
    have walk (ds : List DeskId) (t : State) (flag : Bool) (once : s.wakeQueue.Nodup → ds.Nodup)
        (queued : s.wakeQueue.Nodup → ∀ d ∈ ds, d ∈ t.wakeQueue) (run : t.run = .running false info deadline) (good : P t) :
        P (ds.foldl (State.scanDesk info) (t, flag)).1 := by
      induction ds generalizing t flag with
      | nil => exact good
      | cons d ds ih =>
        have later {u : State} (queue : u.wakeQueue = t.wakeQueue.filter (· != d)) :
            s.wakeQueue.Nodup → ∀ e ∈ ds, e ∈ u.wakeQueue := by
          intro nodup e mem
          rw [queue, mem_filter_ne]
          exact ⟨queued nodup e (List.mem_cons_of_mem d mem), fun same => (List.nodup_cons.1 (once nodup)).1 (same ▸ mem)⟩
        have once' (nodup : s.wakeQueue.Nodup) : ds.Nodup := (List.nodup_cons.1 (once nodup)).2
        have here (nodup : s.wakeQueue.Nodup) : d ∈ t.wakeQueue := queued nodup d (List.mem_cons_self ..)
        rw [List.foldl_cons]
        rcases State.scanDesk_cases info t flag d with ⟨-, outcome⟩ | ⟨-, -, outcome⟩ | ⟨-, -, outcome⟩
        · rw [outcome]
          refine ih _ _ once' (later (State.failDesk_wakeQueue ..)) ((State.failDesk_run ..).trans run) ?_
          rw [State.failDesk_parts]
          exact traffic _ _ (.raise ..) (State.retireUpTo_keeps dropped _ (failed t info deadline d run here good))
        · rw [outcome]
          refine ih _ _ once' (later (State.wakeDesk_wakeQueue ..)) (by rw [State.wakeDesk_eq]; exact run) ?_
          rw [State.wakeDesk_parts]
          refine charged _ _ _ _ (traffic _ _ (.putControl ?_ _) (woken t info deadline d run here good))
          change t.run ≠ .standby
          rw [run]
          nofun
        · rw [outcome]
          exact ih t flag once' (fun nodup e mem => queued nodup e (List.mem_cons_of_mem d mem)) run good
    exact walk s.wakeQueue s false id (fun _ _ mem => mem) run start
  · exact start

/-! ## What single operations leave alone -/

theorem State.deskHeard_eq (s : State) (d : DeskId) :
    s.deskHeard d = { s with desks := (s.deskHeard d).desks, wakeQueue := (s.deskHeard d).wakeQueue } := by
  unfold State.deskHeard
  split
  · split
    · rw [State.unqueue_eq]; rfl
    · rfl
  · rfl

theorem State.sendCurrent_shape (s : State) (h : BlockHeader) : s.sendCurrent h = { s with
    slots := (s.sendCurrent h).slots, current := (s.sendCurrent h).current, repairCount := (s.sendCurrent h).repairCount
    position := (s.sendCurrent h).position, exhausted := (s.sendCurrent h).exhausted } := by
  unfold State.sendCurrent State.takePosition
  split <;> rfl

/-! ## The queue of commands -/

theorem Move.pending {c : Cause} {s t : State} (move : Move c s t) (timed : c ≠ .idle) : t.pending = s.pending := by
  cases move with
  | traffic h => rw [h.shape]
  | heard d => rw [State.deskHeard_eq]
  | scan => exact State.scan_pending ..
  | wanted f c => exact State.insertWanted_pending ..
  | send => rw [State.sendCurrent_shape]
  | clock => exact absurd rfl timed
  | _ => simp only [State.modifyNight, State.mapNight, State.dropTail, State.hit, State.queueDesks_eq, State.closed, State.beginRun_eq,
      State.pauseRun_eq, State.resumeRun_eq, State.releaseReport_eq, State.engineCleared, State.fullReset, powerOnEvent]

/-- Settles O2: no move of a command touches the queue of waiting commands. -/
theorem execLeavesQueueAlone : Obligations.ExecLeavesQueueAlone := by
  intro c s
  obtain ⟨t, next, comes⟩ := exec_comes c s
  refine ⟨t, next, ?_⟩
  rcases comes with ⟨k, -, chain⟩ | chain | ⟨-, power⟩
  · refine chain.keeps (P := fun t => t.pending = s.pending) (fun c u v allowed move same => (move.pending ?_).trans same) rfl
    rintro rfl
    rcases allowed with event | ⟨close, -⟩ | own
    · cases event
    · cases close
    · cases own
  · refine chain.keeps (P := fun t => t.pending = s.pending) (fun c u v allowed move same => (move.pending ?_).trans same) rfl
    rintro rfl
    rcases allowed with event | close
    · cases event
    · cases close
  · rw [power]; rfl

end Sys2Proof.Machine
end

section
/-! SUPPORT. What no command changes but by its rule: the run state (O54), what the depot loaded (O55), the counters and the stream position
(O56). -/

namespace Sys2Proof.Machine

/-! ## The run state -/

theorem Move.run_event {s t : State} (move : Move .event s t) : t.run = s.run := by
  cases move with
  | traffic h => exact h.run
  | heard d => rw [State.deskHeard_eq]
  | scan => exact State.scan_run ..
  | wanted f c => exact State.insertWanted_run ..
  | send => exact State.sendCurrent_run ..
  | _ => simp only [State.modifyNight, State.mapNight, State.dropTail, State.hit, State.queueDesks_eq]

theorem Move.run_close {s t : State} (move : Move .close s t) : ∃ paused info deadline cause left,
    s.run = .running paused info deadline ∧ t.run = .closed info cause left := by
  cases move with
  | close run cause => exact ⟨_, _, _, cause, _, run, rfl⟩

/-- R118: the run moves that requests make. -/
inductive Run.Requested : ReqKind → Run → Run → Prop
  | same (k : ReqKind) (run : Run) : Run.Requested k run run
  | reset {k : ReqKind} (reset : k = .engineReset ∨ k = .fullReset) (run : Run) : Run.Requested k run .standby
  | release (info : RunInfo) (cause : CloseCause) (left : Nat) : Run.Requested .reportRelease (.closed info cause left) .standby
  | start (info : RunInfo) (deadline : Nat) : Run.Requested .runStart .standby (.running false info deadline)
  | pause (info : RunInfo) (deadline : Nat) : Run.Requested .runPause (.running false info deadline) (.running true info deadline)
  | resume (info : RunInfo) (deadline : Nat) : Run.Requested .runResume (.running true info deadline) (.running false info deadline)

theorem Move.run_request {k : ReqKind} {s t : State} (move : Move (.request k) s t) : Run.Requested k s.run t.run := by
  cases move with
  | beginRun run range owner => rw [run, State.beginRun_eq]; exact .start ..
  | pauseRun run => rw [run, State.pauseRun_eq]; exact .pause ..
  | resumeRun run => rw [run, State.resumeRun_eq]; exact .resume ..
  | releaseReport run => rw [run, State.releaseReport_eq]; exact .release ..
  | engineReset => exact .reset (.inl rfl) _
  | fullReset => exact .reset (.inr rfl) _
  | deskWrite => exact .same ..
  | circuitWrite => exact .same ..
  | matchWrite => exact .same ..
  | matchLive => exact .same ..
  | slotmapWrite => exact .same ..
  | stationWrite => exact .same ..
  | clearCounters => exact .same ..

/-- R118: the run states that a request of a kind can lead to, with a close in the same event where it is not REPORT RELEASE. -/
def Run.Reaches (k : ReqKind) (a b : Run) : Prop :=
  b = a ∨ (b.code = 0 ∧ (k = .engineReset ∨ k = .fullReset ∨ (k = .reportRelease ∧ a.code = 3))) ∨
  (k = .runStart ∧ a.code = 0 ∧ (b.code = 1 ∨ b.code = 3)) ∨ (k = .runPause ∧ a.code = 1 ∧ b.code = 2) ∨
  (k = .runResume ∧ a.code = 2 ∧ b.code = 1) ∨ (k ≠ .reportRelease ∧ (a.code = 1 ∨ a.code = 2) ∧ b.code = 3)

theorem Run.code_running (paused : Bool) (info : RunInfo) (deadline : Nat) :
    (Run.running paused info deadline).code = 1 ∨ (Run.running paused info deadline).code = 2 := by
  cases paused
  · exact .inl rfl
  · exact .inr rfl

theorem Run.Reaches.close {k : ReqKind} {a b b' : Run} (sofar : Run.Reaches k a b) (other : k ≠ .reportRelease)
    (running : b.code = 1 ∨ b.code = 2) (closed : b'.code = 3) : Run.Reaches k a b' := by
  rcases sofar with rfl | ⟨standby, -⟩ | ⟨start, code, -⟩ | ⟨-, code, -⟩ | ⟨-, code, -⟩ | ⟨-, -, code⟩
  · exact .inr (.inr (.inr (.inr (.inr ⟨other, running, closed⟩))))
  · omega
  · exact .inr (.inr (.inl ⟨start, code, .inr closed⟩))
  · exact .inr (.inr (.inr (.inr (.inr ⟨other, .inl code, closed⟩))))
  · exact .inr (.inr (.inr (.inr (.inr ⟨other, .inr code, closed⟩))))
  · omega

theorem Run.Reaches.request {k : ReqKind} {a b b' : Run} (sofar : Run.Reaches k a b) (request : Run.Requested k b b') :
    Run.Reaches k a b' := by
  cases request with
  | same => exact sofar
  | reset reset => exact .inr (.inl ⟨rfl, reset.elim .inl fun full => .inr (.inl full)⟩)
  | release =>
    rcases sofar with rfl | ⟨code, -⟩ | ⟨kind, -⟩ | ⟨kind, -⟩ | ⟨kind, -⟩ | ⟨other, -⟩
    · exact .inr (.inl ⟨rfl, .inr (.inr ⟨rfl, rfl⟩)⟩)
    · cases code
    · cases kind
    · cases kind
    · cases kind
    · exact absurd rfl other
  | start =>
    rcases sofar with rfl | ⟨-, kind⟩ | ⟨-, -, code⟩ | ⟨kind, -⟩ | ⟨kind, -⟩ | ⟨-, -, code⟩
    · exact .inr (.inr (.inl ⟨rfl, rfl, .inl rfl⟩))
    · simp at kind
    · exact absurd code (by decide)
    · cases kind
    · cases kind
    · cases code
  | pause =>
    rcases sofar with rfl | ⟨code, -⟩ | ⟨kind, -⟩ | ⟨-, -, code⟩ | ⟨kind, -⟩ | ⟨-, -, code⟩
    · exact .inr (.inr (.inr (.inl ⟨rfl, rfl, rfl⟩)))
    · cases code
    · cases kind
    · cases code
    · cases kind
    · cases code
  | resume =>
    rcases sofar with rfl | ⟨code, -⟩ | ⟨kind, -⟩ | ⟨kind, -⟩ | ⟨-, -, code⟩ | ⟨-, -, code⟩
    · exact .inr (.inr (.inr (.inr (.inl ⟨rfl, rfl, rfl⟩))))
    · cases code
    · cases kind
    · cases kind
    · cases code
    · cases code

theorem Chain.run_reaches {k : ReqKind} {s t : State} (chain : Chain k.Allows s t) : Run.Reaches k s.run t.run := by
  refine chain.keeps (P := fun t => Run.Reaches k s.run t.run) (fun c u v allowed move sofar => ?_) (.inl rfl)
  rcases allowed with rfl | ⟨rfl, other⟩ | rfl
  · rw [move.run_event]; exact sofar
  · obtain ⟨paused, info, deadline, cause, left, running, closed⟩ := move.run_close
    exact sofar.close other (by rw [running]; exact Run.code_running ..) (by rw [closed]; rfl)
  · exact sofar.request move.run_request

/-- Outside requests the run changes by a close alone. -/
theorem Chain.run_own {s t : State} (chain : Chain Cause.own s t) :
    t.run = s.run ∨ ∃ paused info deadline cause left, s.run = .running paused info deadline ∧ t.run = .closed info cause left := by
  refine chain.keeps (P := fun t => t.run = s.run ∨ ∃ paused info deadline cause left,
    s.run = .running paused info deadline ∧ t.run = .closed info cause left) (fun c u v allowed move sofar => ?_) (.inl rfl)
  rcases allowed with rfl | rfl
  · rw [move.run_event]; exact sofar
  · obtain ⟨paused, info, deadline, cause, left, running, closed⟩ := move.run_close
    rcases sofar with same | ⟨_, _, _, _, _, -, before⟩
    · exact .inr ⟨paused, info, deadline, cause, left, same.symm.trans running, closed⟩
    · rw [before] at running; cases running

/-- R119, R123: a record present before a request is there after it, or none is. -/
theorem Chain.info_request {k : ReqKind} {s t : State} (chain : Chain k.Allows s t) {info : RunInfo} (present : s.run.info? = some info) :
    t.run.info? = some info ∨ (t.run = .standby ∧ k ≠ .runStart) := by
  refine chain.keeps (P := fun t => t.run.info? = some info ∨ (t.run = .standby ∧ k ≠ .runStart)) (fun c u v allowed move sofar => ?_)
    (.inl present)
  rcases allowed with rfl | ⟨rfl, other⟩ | rfl
  · rw [move.run_event]; exact sofar
  · obtain ⟨paused, info', deadline, cause, left, running, closed⟩ := move.run_close
    rcases sofar with same | ⟨standby, -⟩
    · rw [running] at same; exact .inl (by rw [closed]; exact same)
    · rw [standby] at running; cases running
  · have request := move.run_request
    generalize u.run = a at *
    generalize v.run = b at *
    cases request with
    | same => exact sofar
    | reset reset => exact .inr ⟨rfl, by rintro rfl; simp at reset⟩
    | release => exact .inr ⟨rfl, nofun⟩
    | start =>
      rcases sofar with none | ⟨-, other⟩
      · cases none
      · exact absurd rfl other
    | pause => exact .inl (sofar.elim id fun h => by cases h.1)
    | resume => exact .inl (sofar.elim id fun h => by cases h.1)

/-- Settles O54: the run reached by a request of one kind, by the part's own events, and by the reset input. -/
theorem runChangesOnlyByRule : Obligations.RunChangesOnlyByRule := by
  refine ⟨?_, fun c s t info next present => ?_⟩
  · intro c s t next changed is
    rcases Instr.Comes.of_exec next with ⟨k, kind, chain⟩ | chain | ⟨power, after⟩
    · rcases chain.run_reaches with
        same | ⟨code, rfl | rfl | ⟨rfl, closed⟩⟩ | ⟨rfl, code, reached⟩ | ⟨rfl, codes⟩ | ⟨rfl, codes⟩ | ⟨-, codes⟩
      · exact absurd (congrArg Run.code same.symm) changed
      · exact .inl ⟨code, .inl kind⟩
      · exact .inl ⟨code, .inr (.inl kind)⟩
      · exact .inl ⟨code, .inr (.inr (.inr ⟨closed, kind⟩))⟩
      · exact .inr (.inl ⟨code, reached, kind⟩)
      · exact .inr (.inr (.inl ⟨codes.1, codes.2, kind⟩))
      · exact .inr (.inr (.inr (.inl ⟨codes.1, codes.2, kind⟩)))
      · exact .inr (.inr (.inr (.inr codes)))
    · rcases chain.run_own with same | ⟨paused, info, deadline, cause, left, running, closed⟩
      · exact absurd (congrArg Run.code same.symm) changed
      · exact .inr (.inr (.inr (.inr ⟨by rw [running]; exact Run.code_running .., by rw [closed]; rfl⟩)))
    · exact .inl ⟨by rw [after]; rfl, .inr (.inr (.inl power))⟩
  · rcases Instr.Comes.of_exec next with ⟨k, kind, chain⟩ | chain | ⟨power, after⟩
    · exact (chain.info_request present).imp id And.left
    · rcases chain.run_own with same | ⟨paused, info', deadline, cause, left, running, closed⟩
      · exact .inl (by rw [same]; exact present)
      · rw [running] at present
        exact .inl (by rw [closed]; exact present)
    · exact .inr (by rw [after]; rfl)

/-! ## What the depot loaded -/

/-- R2, R137: what the depot loaded is as it was. -/
structure State.SameLoad (s t : State) : Prop where
  config : ∀ d : DeskId, t.desks[d].config = s.desks[d].config
  circuit : ∀ x : CircuitId, t.circuits[x].budget = s.circuits[x].budget ∧ t.circuits[x].decay = s.circuits[x].decay ∧
    t.circuits[x].gap = s.circuits[x].gap
  entry : ∀ i : Fin 32, ∃ hits, t.matchTable[i] = { s.matchTable[i] with hits := hits }
  live : t.liveCount = s.liveCount
  slotMap : t.slotMap = s.slotMap
  stations : t.stations = s.stations
  notices : t.noticeEnable = s.noticeEnable
  info : t.run.info? = s.run.info?
  station : t.station = s.station

/-- A change of neither circuits nor match entries, and of no desk's configuration. -/
theorem State.SameLoad.of_configs {s t : State} (config : ∀ d : DeskId, t.desks[d].config = s.desks[d].config)
    (circuits : t.circuits = s.circuits) (entries : t.matchTable = s.matchTable) (live : t.liveCount = s.liveCount)
    (slotMap : t.slotMap = s.slotMap) (stations : t.stations = s.stations) (notices : t.noticeEnable = s.noticeEnable)
    (run : t.run = s.run) (station : t.station = s.station) : s.SameLoad t where
  config := config
  circuit x := by rw [circuits]; exact ⟨rfl, rfl, rfl⟩
  entry i := ⟨s.matchTable[i].hits, by rw [entries]⟩
  live := live
  slotMap := slotMap
  stations := stations
  notices := notices
  info := by rw [run]
  station := station

theorem State.SameLoad.refl (s : State) : s.SameLoad s := .of_configs (fun _ => rfl) rfl rfl rfl rfl rfl rfl rfl rfl

theorem State.SameLoad.trans {s t u : State} (first : s.SameLoad t) (second : t.SameLoad u) : s.SameLoad u where
  config d := (second.config d).trans (first.config d)
  circuit x := by
    obtain ⟨budget, decay, gap⟩ := first.circuit x
    obtain ⟨budget', decay', gap'⟩ := second.circuit x
    exact ⟨budget'.trans budget, decay'.trans decay, gap'.trans gap⟩
  entry i := by
    obtain ⟨hits, entry⟩ := first.entry i
    obtain ⟨hits', entry'⟩ := second.entry i
    exact ⟨hits', by rw [entry', entry]⟩
  live := second.live.trans first.live
  slotMap := second.slotMap.trans first.slotMap
  stations := second.stations.trans first.stations
  notices := second.notices.trans first.notices
  info := second.info.trans first.info
  station := second.station.trans first.station

theorem State.modifyNight_config (s : State) (d e : DeskId) (f : Night → Night) :
    (s.modifyNight d f).desks[e].config = s.desks[e].config := by
  rw [State.modifyNight_desk]
  split
  · next same => rw [same]
  · rfl

theorem State.mapNight_config (s : State) (f : DeskId → Desk → Night) (d : DeskId) :
    (s.mapNight f).desks[d].config = s.desks[d].config := by
  rw [State.mapNight_desk]

theorem State.deskHeard_config (s : State) (d e : DeskId) : (s.deskHeard d).desks[e].config = s.desks[e].config := by
  unfold State.deskHeard
  split
  · split
    · rw [State.modifyNight_config, State.unqueue_eq]
    · rfl
  · rfl

theorem State.queueDesks_config (s : State) (ds : List DeskId) (e : DeskId) :
    (s.queueDesks ds).desks[e].config = s.desks[e].config := by
  simp only [State.queueDesks_eq, vector_ofFn_get]
  split <;> rfl

theorem State.closed_config (s : State) (info : RunInfo) (deadline : Nat) (cause : CloseCause) (e : DeskId) :
    (s.closed info deadline cause).desks[e].config = s.desks[e].config := by
  simp only [State.closed, vector_ofFn_get]
  split <;> rfl

theorem State.Traffic.sameLoad {s t : State} (h : s.Traffic t) : s.SameLoad t := by
  rw [h.shape]
  exact .of_configs (fun _ => rfl) rfl rfl rfl rfl rfl rfl rfl rfl

theorem State.SameLoad.modifyNight (s : State) (d : DeskId) (f : Night → Night) : s.SameLoad (s.modifyNight d f) :=
  .of_configs (s.modifyNight_config d · f) rfl rfl rfl rfl rfl rfl rfl rfl

theorem State.SameLoad.mapNight (s : State) (f : DeskId → Desk → Night) : s.SameLoad (s.mapNight f) := by
  refine .of_configs (s.mapNight_config f) ?_ ?_ ?_ ?_ ?_ ?_ ?_ ?_
  all_goals rw [State.mapNight]

/-- Neither the Wake Queue nor the ring is loaded by the depot. -/
theorem State.SameLoad.queued {s t : State} (same : s.SameLoad t) (queue : List DeskId) (slots : Vector Slot 64) :
    s.SameLoad { t with wakeQueue := queue, slots := slots } :=
  ⟨same.config, same.circuit, same.entry, same.live, same.slotMap, same.stations, same.notices, same.info, same.station⟩

theorem State.scan_sameLoad (s : State) : s.SameLoad s.scan.1 := by
  refine State.scan_keeps (P := s.SameLoad) (fun t info deadline d _ _ same => same.trans ?_)
    (fun t info deadline d _ _ same => same.trans ?_) (fun t now c weight same => same.trans ?_) (fun t _ _ _ same => same.trans ?_)
    (fun t u traffic same => same.trans traffic.sameLoad) (.refl s)
  · exact (((State.SameLoad.refl t).queued _ _).trans (.modifyNight ..)).queued _ _
  · exact ((State.SameLoad.refl t).queued _ _).trans (.modifyNight ..)
  · refine { State.SameLoad.refl t with circuit := fun x => ?_ }
    simp only [State.scanCharged, vector_set_get]
    split
    · next same => rw [← same]; exact ⟨rfl, rfl, rfl⟩
    · exact ⟨rfl, rfl, rfl⟩
  · exact .of_configs (fun _ => rfl) rfl rfl rfl rfl rfl rfl rfl rfl

/-- No move but a request's, or a loss of power, changes what the depot loaded. -/
theorem Move.sameLoad {c : Cause} {s t : State} (move : Move c s t) (own : c.own) : s.SameLoad t := by
  cases move with
  | traffic h => exact h.sameLoad
  | heard =>
    refine .of_configs (s.deskHeard_config _) ?_ ?_ ?_ ?_ ?_ ?_ ?_ ?_
    all_goals rw [State.deskHeard_eq]
  | scan => exact s.scan_sameLoad
  | night => exact .modifyNight ..
  | requeue => exact (State.SameLoad.modifyNight ..).queued _ _
  | leave =>
    generalize Vector.ofFn _ = slots
    exact (State.SameLoad.modifyNight ..).queued _ slots
  | lag => exact .mapNight ..
  | send =>
    rw [State.sendCurrent_shape]
    exact .of_configs (fun _ => rfl) rfl rfl rfl rfl rfl rfl rfl rfl
  | wanted =>
    rw [State.insertWanted_eq]
    exact .of_configs (fun _ => rfl) rfl rfl rfl rfl rfl rfl rfl rfl
  | circuit budget decay gap load =>
    refine { State.SameLoad.refl s with circuit := fun x => ?_ }
    simp only [vector_set_get]
    split
    · next same => rw [← same]; exact ⟨budget, decay, gap⟩
    · exact ⟨rfl, rfl, rfl⟩
  | hit i =>
    refine { State.SameLoad.refl s with entry := fun j => ?_ }
    simp only [State.hit, vector_set_get]
    split
    · next same => rw [← same]; exact ⟨_, rfl⟩
    · exact ⟨_, rfl⟩
  | queueDesks progress first last =>
    refine .of_configs (s.queueDesks_config _) ?_ ?_ ?_ ?_ ?_ ?_ ?_ ?_
    all_goals rw [State.queueDesks_eq]
  | close run cause =>
    refine ⟨s.closed_config _ _ cause, fun x => ?_, fun i => ⟨s.matchTable[i].hits, ?_⟩, ?_, ?_, ?_, ?_, by rw [run]; rfl, ?_⟩
    · simp only [State.closed, vector_ofFn_get]
      exact ⟨rfl, rfl, rfl⟩
    all_goals simp only [State.closed]
  | deskWrite | circuitWrite | matchWrite | matchLive | slotmapWrite | stationWrite | beginRun | pauseRun | resumeRun | releaseReport
  | engineReset | fullReset | clearCounters | powerOn | clock => rcases own with request | request <;> cases request
  | _ => exact .of_configs (fun _ => rfl) rfl rfl rfl rfl rfl rfl rfl rfl

theorem Move.stations {k : ReqKind} {s t : State} (move : Move (.request k) s t) (other : k ≠ .stationWrite) : t.stations = s.stations := by
  cases move with
  | stationWrite => exact absurd rfl other
  | _ => simp only [State.beginRun_eq, State.pauseRun_eq, State.resumeRun_eq, State.releaseReport_eq, State.engineCleared, State.fullReset]

theorem Chain.stations {k : ReqKind} {s t : State} (chain : Chain k.Allows s t) (other : k ≠ .stationWrite) : t.stations = s.stations := by
  refine chain.keeps (P := fun t => t.stations = s.stations) (fun c u v allowed move same => ?_) rfl
  rcases allowed with rfl | ⟨rfl, -⟩ | rfl
  · exact (move.sameLoad (.inl rfl)).stations.trans same
  · exact (move.sameLoad (.inr rfl)).stations.trans same
  · exact (move.stations other).trans same

theorem Chain.sameLoad {s t : State} (chain : Chain Cause.own s t) : s.SameLoad t :=
  chain.keeps (P := s.SameLoad) (fun _ _ _ allowed move same => same.trans (move.sameLoad allowed)) (.refl s)

/-- Settles O55: a request of another kind than STATION WRITE keeps the Station List, and the part's own events keep all that was loaded. -/
theorem onlyRequestsConfigure : Obligations.OnlyRequestsConfigure := by
  refine ⟨fun c s t next changed => ?_, fun c s t next notRequest notPower notUpstream => ?_⟩
  · rcases Instr.Comes.of_exec next with ⟨k, kind, chain⟩ | chain | ⟨power, -⟩
    · obtain rfl : k = .stationWrite := by
        by_contra other
        exact changed (chain.stations other)
      exact .inr kind
    · exact absurd chain.sameLoad.stations changed
    · exact .inl power
  · have same : s.SameLoad t := by
      rcases Instr.Comes.of_exec next with ⟨k, ⟨r, request⟩ | ⟨frame, arrival, -⟩, -⟩ | chain | ⟨power, -⟩
      · exact absurd request (notRequest k r)
      · exact absurd arrival (notUpstream true frame)
      · exact chain.sameLoad
      · exact absurd power notPower
    exact ⟨same.config, same.circuit, same.entry, same.live, same.slotMap, same.stations, same.notices, same.info, same.station⟩

/-! ## Counters and the stream position -/

/-- R156: the counters rise, within 32 bits. -/
def State.CountersRise (s t : State) : Prop :=
  ∀ k, s.counter k ≤ 4294967295 → s.counter k ≤ t.counter k ∧ t.counter k ≤ 4294967295

theorem State.CountersRise.trans {s t u : State} (first : s.CountersRise t) (second : t.CountersRise u) : s.CountersRise u := by
  intro k bound
  obtain ⟨rise, bound⟩ := first k bound
  obtain ⟨rise', bound'⟩ := second k bound
  exact ⟨rise.trans rise', bound'⟩

theorem State.CountersRise.of_counters {s t : State} (same : t.counters = s.counters) : s.CountersRise t := by
  intro k bound
  have value : t.counter k = s.counter k := by rw [State.counter, State.counter, same]
  exact ⟨Nat.le_of_eq value.symm, value ▸ bound⟩

theorem State.scan_countersRise (s : State) : s.CountersRise s.scan.1 :=
  State.scan_keeps (P := s.CountersRise) (fun _ _ _ _ _ _ rise => rise.trans (.of_counters rfl))
    (fun _ _ _ _ _ _ rise => rise.trans (.of_counters rfl)) (fun _ _ _ _ rise => rise.trans (.of_counters rfl))
    (fun _ _ _ _ rise => rise.trans (.of_counters rfl)) (fun _ _ traffic rise => rise.trans traffic.counters)
    (.of_counters rfl)

/-- R156: a counter falls by a clear, a FULL RESET or a loss of power alone. -/
theorem Move.countersRise {c : Cause} {s t : State} (move : Move c s t)
    (other : c ≠ .request .countersRead ∧ c ≠ .request .fullReset ∧ c ≠ .power) : s.CountersRise t := by
  cases move with
  | traffic h => exact h.counters
  | scan => exact s.scan_countersRise
  | heard d => exact .of_counters (by rw [State.deskHeard_eq])
  | send => exact .of_counters (by rw [State.sendCurrent_shape])
  | wanted => exact .of_counters (by rw [State.insertWanted_eq])
  | clearCounters => exact absurd rfl other.1
  | fullReset => exact absurd rfl other.2.1
  | powerOn => exact absurd rfl other.2.2
  | _ => exact .of_counters (by
      simp only [State.modifyNight, State.mapNight, State.dropTail, State.hit, State.queueDesks_eq, State.closed, State.beginRun_eq,
        State.pauseRun_eq, State.resumeRun_eq, State.releaseReport_eq, State.engineCleared])

/-- R80: the stream position starts anew by a RUN START, a reset or a loss of power alone. -/
theorem Move.position_le {c : Cause} {s t : State} (move : Move c s t)
    (other : c ≠ .request .runStart ∧ c ≠ .request .engineReset ∧ c ≠ .request .fullReset ∧ c ≠ .power) : s.position ≤ t.position := by
  cases move with
  | traffic h => rw [h.shape]
  | scan => rw [State.scan_position]
  | heard d => rw [State.deskHeard_eq]
  | wanted => rw [State.insertWanted_eq]
  | send =>
    unfold State.sendCurrent State.takePosition
    split
    · exact Nat.le_succ _
    · exact Nat.le_refl _
  | beginRun => exact absurd rfl other.1
  | engineReset => exact absurd rfl other.2.1
  | fullReset => exact absurd rfl other.2.2.1
  | powerOn => exact absurd rfl other.2.2.2
  | _ => simp only [State.modifyNight, State.mapNight, State.dropTail, State.hit, State.queueDesks_eq, State.closed, State.pauseRun_eq,
      State.resumeRun_eq, State.releaseReport_eq, le_refl]

/-- Settles O56: the request's kind, or the part's own events, decide what can fall. -/
theorem countersAndPositionOnlyRise : Obligations.CountersAndPositionOnlyRise := by
  intro c s t bounded next notPower notCleared notUpstream
  rcases Instr.Comes.of_exec next with ⟨k, ⟨r, rfl⟩ | ⟨frame, arrival, -⟩, chain⟩ | chain | ⟨power, -⟩
  · have kinds : k ≠ .countersRead ∧ k ≠ .fullReset := by
      constructor <;> rintro rfl
      · exact (notCleared r).1 rfl
      · exact (notCleared r).2 rfl
    have rise : s.CountersRise t := by
      refine chain.keeps (P := s.CountersRise) (fun c u v allowed move sofar => sofar.trans (move.countersRise ?_)) (.of_counters rfl)
      rcases allowed with rfl | ⟨rfl, -⟩ | rfl
      · exact ⟨nofun, nofun, nofun⟩
      · exact ⟨nofun, nofun, nofun⟩
      · exact ⟨fun h => kinds.1 (Cause.request.inj h), fun h => kinds.2 (Cause.request.inj h), nofun⟩
    refine ⟨fun k => (rise k (bounded k)).1, fun notStart => ?_⟩
    have kinds' : k ≠ .runStart ∧ k ≠ .engineReset := by
      constructor <;> rintro rfl
      · exact (notStart r).1 rfl
      · exact (notStart r).2 rfl
    refine chain.keeps (P := fun t => s.position ≤ t.position) (fun c u v allowed move sofar => sofar.trans (move.position_le ?_)) (Nat.le_refl _)
    rcases allowed with rfl | ⟨rfl, -⟩ | rfl
    · exact ⟨nofun, nofun, nofun, nofun⟩
    · exact ⟨nofun, nofun, nofun, nofun⟩
    · exact ⟨fun h => kinds'.1 (Cause.request.inj h), fun h => kinds'.2 (Cause.request.inj h), fun h => kinds.2 (Cause.request.inj h), nofun⟩
  · exact absurd arrival (notUpstream true frame)
  · have rise : s.CountersRise t := by
      refine chain.keeps (P := s.CountersRise) (fun c u v allowed move sofar => sofar.trans (move.countersRise ?_)) (.of_counters rfl)
      rcases allowed with rfl | rfl <;> exact ⟨nofun, nofun, nofun⟩
    refine ⟨fun k => (rise k (bounded k)).1, fun _ => ?_⟩
    refine chain.keeps (P := fun t => s.position ≤ t.position) (fun c u v allowed move sofar => sofar.trans (move.position_le ?_)) (Nat.le_refl _)
    rcases allowed with rfl | rfl <;> exact ⟨nofun, nofun, nofun, nofun⟩
  · exact absurd power notPower

end Sys2Proof.Machine
end

section
/-! SUPPORT. The state after reset is safe (O60), and every step keeps the bounds, the ranges and the forms (O57). -/

namespace Sys2Proof.Machine

/-! ## The state after reset -/

theorem vector_replicate_get {α : Type} {n : Nat} (x : α) (i : Fin n) : (Vector.replicate n x)[i] = x := by
  rw [Fin.getElem_fin, Vector.getElem_replicate]

theorem reset_desk (d : DeskId) : State.reset.desks[d] = Desk.initial := vector_replicate_get ..

theorem reset_circuit (c : CircuitId) : State.reset.circuits[c] = Circuit.initial := vector_replicate_get ..

theorem reset_entry (i : Fin 32) : State.reset.matchTable[i] = MatchEntry.initial := vector_replicate_get ..

theorem reset_slot (i : SlotId) : State.reset.slots[i] = .empty := vector_replicate_get ..

theorem zero_counter (k : Counter) (s : State) : ({ s with counters := Vector.replicate 22 0 } : State).counter k = 0 :=
  vector_replicate_get ..

theorem reset_queuesBounded : State.reset.QueuesBounded where
  control := Nat.zero_le _
  reply := Nat.zero_le _
  toRoom := Nat.zero_le _
  toUpstream := Nat.zero_le _
  repair := Nat.zero_le _
  stations := Nat.zero_le _
  live := Nat.zero_le _
  counters k := by rw [show State.reset.counter k = 0 from zero_counter k State.reset]; exact Nat.zero_le _

theorem reset_addressesDistinct : State.reset.AddressesDistinct := by
  intro d e some_address
  rw [reset_desk] at some_address
  exact absurd rfl some_address

theorem reset_fieldsInRange : State.reset.FieldsInRange where
  weight d := by rw [reset_desk]; decide
  circuit c := by rw [reset_circuit]; decide
  entry i := by rw [reset_entry]; decide
  pass := Nat.zero_le _
  repairs := Nat.zero_le _

/-- In STANDBY, with every desk idle and an empty Wake Queue. -/
theorem State.DesksGood.of_idle {s : State} (run : s.run = .standby) (night : ∀ d : DeskId, s.desks[d].night = Night.idle)
    (queue : s.wakeQueue = []) : s.DesksGood where
  params info present := by rw [run] at present; cases present
  night info present := by rw [run] at present; cases present
  standby _ := night
  closed _ d := by rw [night]; rfl
  held running := by rw [run] at running; cases running
  once := by rw [queue]; exact List.nodup_nil
  exact d := by rw [queue, night]; exact ⟨nofun, nofun⟩

/-- With nothing held. -/
theorem State.RingGood.of_empty {s : State} (arranged : s.run.inProgress = true → s.Arranged) (slots : s.slots = Vector.replicate 64 .empty)
    (repairs : s.repairQueue = []) (transmission : s.transmission = none) (limit : s.position ≤ 4294967295)
    (exhausted : s.exhausted = true → s.position = 4294967295) : s.RingGood := by
  have slot (i : SlotId) : s.slots[i] = .empty := by rw [slots]; exact vector_replicate_get ..
  exact
    { quiet := fun _ => ⟨slots, repairs, transmission⟩
      arranged := arranged
      headers := fun i h held => by rw [slot] at held; cases held
      partly := fun i h m filling => by rw [slot] at filling; cases filling
      repairsOnce := by rw [repairs]; exact List.nodup_nil
      repairsSent := fun i mem => by rw [repairs] at mem; cases mem
      sending := fun t sending => by rw [transmission] at sending; cases sending
      cut := fun t sending => by rw [transmission] at sending; cases sending
      pendingJoined := fun i d mem => by rw [slot] at mem; cases mem
      pendingOnce := fun i => by rw [slot]; exact List.nodup_nil
      positions := fun i p sent => by rw [slot] at sent; cases sent
      distinct := fun i j p sent => by rw [slot] at sent; cases sent
      limit := limit
      exhausted := exhausted }

/-- Settles O60: the invariants of the state of power-on, one by one. -/
theorem resetStateIsSafe : Obligations.ResetStateIsSafe :=
  ⟨reset_queuesBounded, reset_addressesDistinct, rfl, reset_memory_wf, reset_fieldsInRange,
    .of_idle rfl (fun d => by rw [reset_desk]; rfl) rfl, fun _ => rfl, .of_empty nofun rfl rfl rfl (Nat.zero_le _) nofun⟩

/-! ## What the moves of requests leave of the configuration -/

/-- R7: a desk's configuration changes by a DESK WRITE, a FULL RESET or a loss of power. -/
theorem Move.config {c : Cause} {s t : State} (move : Move c s t)
    (other : c ≠ .request .deskWrite ∧ c ≠ .request .fullReset ∧ c ≠ .power) (d : DeskId) : t.desks[d].config = s.desks[d].config := by
  by_cases own : c.own
  · exact (move.sameLoad own).config d
  · cases move with
    | deskWrite => exact absurd rfl other.1
    | fullReset => exact absurd rfl other.2.1
    | powerOn => exact absurd rfl other.2.2
    | close => exact absurd (.inr rfl) own
    | beginRun =>
      rw [State.beginRun_eq]
      simp only [vector_ofFn_get]
      split <;> rfl
    | pauseRun => simp only [State.pauseRun_eq, vector_ofFn_get]
    | resumeRun => simp only [State.resumeRun_eq, vector_ofFn_get]
    | releaseReport =>
      simp only [State.releaseReport_eq, vector_ofFn_get]
      split <;> rfl
    | engineReset => simp only [State.engineCleared, vector_ofFn_get]
    | circuitWrite | matchWrite | matchLive | slotmapWrite | stationWrite | clearCounters | clock => rfl
    | _ => exact absurd (.inl rfl) own

/-! ## Queues and counters -/

/-- Queues no longer than they were. -/
theorem State.QueuesBounded.of_le {s t : State} (good : s.QueuesBounded) (control : t.controlQueue.length ≤ s.controlQueue.length)
    (reply : t.replyQueue = s.replyQueue) (toRoom : t.toRoom.length ≤ s.toRoom.length)
    (toUpstream : t.toUpstream.length ≤ s.toUpstream.length) (repair : t.repairQueue.length ≤ s.repairQueue.length)
    (stations : t.stations = s.stations) (live : t.liveCount = s.liveCount) (counters : ∀ k, t.counter k ≤ 4294967295) :
    t.QueuesBounded where
  control := control.trans good.control
  reply := by rw [reply]; exact good.reply
  toRoom := toRoom.trans good.toRoom
  toUpstream := toUpstream.trans good.toUpstream
  repair := repair.trans good.repair
  stations := by rw [stations]; exact good.stations
  live := by rw [live]; exact good.live
  counters := counters

theorem State.Traffic.queuesBounded {s t : State} (traffic : s.Traffic t) (good : s.QueuesBounded) : t.QueuesBounded where
  control := by have := traffic.control; have := good.control; omega
  reply := by have := traffic.reply; have := good.reply; omega
  toRoom := by have := traffic.toRoom; have := good.toRoom; omega
  toUpstream := by have := traffic.toUpstream; have := good.toUpstream; omega
  repair := by rw [traffic.shape]; exact good.repair
  stations := by rw [traffic.shape]; exact good.stations
  live := by rw [traffic.shape]; exact good.live
  counters k := (traffic.counters k (good.counters k)).2

theorem State.scan_queuesBounded {s : State} (good : s.QueuesBounded) : s.scan.1.QueuesBounded := by
  refine State.scan_keeps (P := State.QueuesBounded) (fun t _ _ d _ _ good => ?_) (fun t _ _ d _ _ good => ?_)
    (fun t now c weight good => ?_) (fun t _ _ _ good => ?_) (fun t u traffic good => traffic.queuesBounded good) good
  all_goals exact ⟨good.control, good.reply, good.toRoom, good.toUpstream, good.repair, good.stations, good.live, good.counters⟩

theorem Move.queuesBounded {c : Cause} {s t : State} (move : Move c s t) (good : s.QueuesBounded) : t.QueuesBounded := by
  have rise := move.countersRise
  have counters (other : c ≠ .request .countersRead ∧ c ≠ .request .fullReset ∧ c ≠ .power) (k : Counter) : t.counter k ≤ 4294967295 :=
    (rise other k (good.counters k)).2
  cases move with
  | traffic traffic => exact traffic.queuesBounded good
  | scan => exact State.scan_queuesBounded good
  | requestRepair sent absent room =>
    exact { good with repair := by rw [List.length_append]; exact room }
  | repairsLeft left => exact { good with repair := left.length_le.trans good.repair }
  | startRepair run link queue =>
    have shorter := congrArg List.length queue
    rw [List.length_cons] at shorter
    have bound := good.repair
    exact { good with repair := by dsimp only; omega }
  | matchLive few => exact { good with live := few }
  | stationWrite few => exact { good with stations := few }
  | clearCounters => exact { good with counters := fun k => by rw [zero_counter]; exact Nat.zero_le _ }
  | fullReset => exact { reset_queuesBounded with stations := good.stations }
  | powerOn => exact { reset_queuesBounded with }
  | heard =>
    refine good.of_le ?_ ?_ ?_ ?_ ?_ ?_ ?_ (counters ⟨nofun, nofun, nofun⟩)
    all_goals rw [State.deskHeard_eq]
  | send =>
    refine good.of_le ?_ ?_ ?_ ?_ ?_ ?_ ?_ (counters ⟨nofun, nofun, nofun⟩)
    all_goals rw [State.sendCurrent_shape]
  | wanted =>
    refine good.of_le ?_ ?_ ?_ ?_ ?_ ?_ ?_ (counters ⟨nofun, nofun, nofun⟩)
    all_goals rw [State.insertWanted_eq]
  | _ =>
    refine good.of_le ?_ ?_ ?_ ?_ ?_ ?_ ?_ (counters ⟨nofun, nofun, nofun⟩)
    all_goals simp only [State.modifyNight, State.mapNight, State.dropTail, State.hit, State.queueDesks_eq, State.closed,
      State.beginRun_eq, State.pauseRun_eq, State.resumeRun_eq, State.releaseReport_eq, State.engineCleared, List.length_nil,
      Nat.zero_le, le_refl]

/-! ## Addresses, the Wanted List and block memory -/

/-- R4: the addresses of the desks, as they were. -/
theorem State.AddressesDistinct.of_config {s t : State} (apart : s.AddressesDistinct)
    (config : ∀ d : DeskId, t.desks[d].config = s.desks[d].config) : t.AddressesDistinct := by
  intro d e
  rw [config d, config e]
  exact apart d e

theorem Move.addressesDistinct {c : Cause} {s t : State} (move : Move c s t) (apart : s.AddressesDistinct) : t.AddressesDistinct := by
  have config := move.config
  cases move with
  | fullReset => exact reset_addressesDistinct
  | powerOn => exact reset_addressesDistinct
  | @deskWrite _ d cfg idle free weight =>
    intro e f some_address same
    simp only [vector_set_get] at some_address same
    by_cases left : d = e <;> by_cases right : d = f
    · exact left.symm.trans right
    · rw [if_pos left] at some_address
      rw [if_pos left, if_neg right] at same
      rcases free with old | zero | others
      · exact left ▸ apart d f (fun none => some_address (old.trans none)) (old.symm.trans same)
      · exact absurd zero some_address
      · exact absurd same.symm (others f (Ne.symm right))
    · rw [if_neg left] at some_address
      rw [if_neg left, if_pos right] at same
      rcases free with old | zero | others
      · exact right ▸ apart e d some_address (same.trans old)
      · exact absurd (same.trans zero) some_address
      · exact absurd same (others e (Ne.symm left))
    · rw [if_neg left] at some_address
      rw [if_neg left, if_neg right] at same
      exact apart e f some_address same
  | _ => exact apart.of_config (config ⟨nofun, nofun, nofun⟩)

theorem State.WantedGood.of_same {s t : State} (good : s.WantedGood) (info : t.run.info? = s.run.info?) (wanted : t.wanted = s.wanted) :
    t.WantedGood := by
  rw [State.WantedGood, info, wanted]
  exact good

theorem State.wantedGood_none {s : State} (absent : s.run.info? = none) : s.WantedGood ↔ s.wanted = [] := by
  rw [State.WantedGood, absent]

theorem State.wantedGood_some {s : State} {info : RunInfo} (present : s.run.info? = some info) :
    s.WantedGood ↔ RangesGood info.params.blockCount s.wanted ∧ s.wanted.length ≤ 32 := by
  rw [State.WantedGood, present]

/-- An empty list has the form, whether a run parameter record is present or not. -/
theorem State.WantedGood.of_nil {s : State} (empty : s.wanted = []) : s.WantedGood := by
  cases present : s.run.info? with
  | none => exact (State.wantedGood_none present).2 empty
  | some info =>
    rw [State.wantedGood_some present, empty]
    exact ⟨trivial, Nat.zero_le _⟩

theorem State.WantedGood.insertWanted {s : State} (good : s.WantedGood) (f c : Nat) : (s.insertWanted f c).WantedGood := by
  unfold State.insertWanted
  split
  · next info present =>
    obtain ⟨form, few⟩ := (State.wantedGood_some present).1 good
    obtain ⟨form', few', -⟩ := insertRange_keeps form few f c
    exact (State.wantedGood_some (s := { s with wanted := insertRange info.params.blockCount s.wanted f c }) present).2 ⟨form', few'⟩
  · exact good

theorem Move.wantedGood {c : Cause} {s t : State} (move : Move c s t) (good : s.WantedGood) : t.WantedGood := by
  cases move with
  | wanted => exact good.insertWanted ..
  | wantedTaken => exact .of_nil rfl
  | traffic traffic => rw [traffic.shape]; exact good
  | heard => exact good.of_same (by rw [State.deskHeard_eq]) (by rw [State.deskHeard_eq])
  | scan => exact good.of_same (by rw [State.scan_run]) (by rw [State.scan_wanted])
  | send => exact good.of_same (by rw [State.sendCurrent_shape]) (by rw [State.sendCurrent_shape])
  | close run =>
    refine good.of_same (by rw [run]; rfl) ?_
    rw [State.closed]
  | beginRun run =>
    have empty : s.wanted = [] := (State.wantedGood_none (by rw [run]; rfl)).1 good
    exact .of_nil (by rw [State.beginRun_eq]; exact empty)
  | pauseRun run => exact good.of_same (by rw [run, State.pauseRun_eq]; rfl) (by rw [State.pauseRun_eq])
  | resumeRun run => exact good.of_same (by rw [run, State.resumeRun_eq]; rfl) (by rw [State.resumeRun_eq])
  | releaseReport => exact .of_nil (by rw [State.releaseReport_eq])
  | engineReset => exact .of_nil (by rw [State.engineCleared])
  | fullReset => exact .of_nil rfl
  | powerOn => exact .of_nil rfl
  | _ =>
    refine good.of_same ?_ ?_
    all_goals simp only [State.modifyNight, State.mapNight, State.dropTail, State.hit, State.queueDesks_eq]

theorem State.MemoryGood.of_same {s t : State} (good : s.MemoryGood) (memory : t.blockMem = s.blockMem) : t.MemoryGood := by
  rw [State.MemoryGood, memory]
  exact good

theorem Move.memoryGood {c : Cause} {s t : State} (move : Move c s t) (good : s.MemoryGood) : t.MemoryGood := by
  cases move with
  | write keeps =>
    intro i
    simp only [vector_set_get]
    split
    · exact keeps (good s.fill)
    · exact good i
  | fullReset => exact reset_memory_wf
  | powerOn => exact reset_memory_wf
  | traffic traffic => rw [traffic.shape]; exact good
  | heard => exact good.of_same (by rw [State.deskHeard_eq])
  | scan => exact good.of_same (by rw [State.scan_blockMem])
  | send => exact good.of_same (by rw [State.sendCurrent_shape])
  | wanted => exact good.of_same (by rw [State.insertWanted_eq])
  | _ =>
    refine good.of_same ?_
    simp only [State.modifyNight, State.mapNight, State.dropTail, State.hit, State.queueDesks_eq, State.closed, State.beginRun_eq,
      State.pauseRun_eq, State.resumeRun_eq, State.releaseReport_eq, State.engineCleared]

/-! ## Ranges of fields -/

/-- R121: the record present is in range. -/
def State.ParamsInRange (s : State) : Prop := ∀ info, s.run.info? = some info → info.params.InRange

theorem Move.paramsInRange {c : Cause} {s t : State} (move : Move c s t) (range : s.ParamsInRange) : t.ParamsInRange := by
  have none {u : State} (absent : u.run = .standby) : u.ParamsInRange := fun info present => by rw [absent] at present; cases present
  by_cases own : c.own
  · have same := (move.sameLoad own).info
    rw [State.ParamsInRange, same]
    exact range
  · cases move with
    | beginRun run range' =>
      intro info present
      rw [State.beginRun_eq] at present
      cases present
      exact range'
    | pauseRun run =>
      intro info present
      rw [State.pauseRun_eq] at present
      exact range info (by rw [run]; exact present)
    | resumeRun run =>
      intro info present
      rw [State.resumeRun_eq] at present
      exact range info (by rw [run]; exact present)
    | releaseReport => exact none (by rw [State.releaseReport_eq])
    | engineReset => exact none rfl
    | fullReset => exact none rfl
    | powerOn => exact none rfl
    | close => exact absurd (.inr rfl) own
    | deskWrite | circuitWrite | matchWrite | matchLive | slotmapWrite | stationWrite | clearCounters | clock => exact range
    | _ => exact absurd (.inl rfl) own

/-- A circuit whose settings stand, and whose load does not rise. -/
structure Circuit.Within (x y : Circuit) : Prop where
  budget : y.budget = x.budget
  decay : y.decay = x.decay
  gap : y.gap = x.gap
  load : y.load ≤ x.load

theorem Circuit.Within.refl (x : Circuit) : x.Within x := ⟨rfl, rfl, rfl, Nat.le_refl _⟩

theorem State.FieldsInRange.of_within {s t : State} (range : s.FieldsInRange) (config : ∀ d : DeskId, t.desks[d].config = s.desks[d].config)
    (circuits : ∀ c : CircuitId, (s.circuits[c]).Within t.circuits[c]) (entries : t.matchTable = s.matchTable)
    (pass : t.currentPass ≤ s.currentPass) (repairs : t.repairCount ≤ s.repairCount) : t.FieldsInRange where
  weight d := by rw [config]; exact range.weight d
  circuit c := by
    obtain ⟨budget, decay, gap, load⟩ := range.circuit c
    obtain ⟨budget', decay', gap', load'⟩ := circuits c
    rw [budget', decay', gap']
    exact ⟨budget, decay, gap, load'.trans load⟩
  entry i := by rw [entries]; exact range.entry i
  pass := pass.trans range.pass
  repairs := repairs.trans range.repairs

/-- R33, step 6: a charge keeps the load within 65535. -/
theorem State.FieldsInRange.scanCharged {s : State} (range : s.FieldsInRange) (now : Nat) (c : CircuitId) (weight : Nat) :
    (s.scanCharged now c weight).FieldsInRange := by
  refine { range with circuit := fun x => ?_ }
  simp only [State.scanCharged, vector_set_get]
  split
  · obtain ⟨budget, decay, gap, -⟩ := range.circuit c
    exact ⟨budget, decay, gap, Nat.min_le_right ..⟩
  · exact range.circuit x

theorem State.scanFailed_config (s : State) (d e : DeskId) : (s.scanFailed d).desks[e].config = s.desks[e].config := by
  simp only [State.scanFailed]
  exact (s.withoutQueued d).modifyNight_config d e _

theorem State.scanWoken_config (s : State) (info : RunInfo) (d e : DeskId) :
    (s.scanWoken info d).desks[e].config = s.desks[e].config :=
  (s.withoutQueued d).modifyNight_config d e _

theorem State.scan_fieldsInRange {s : State} (range : s.FieldsInRange) : s.scan.1.FieldsInRange := by
  refine State.scan_keeps (P := State.FieldsInRange) (fun t _ _ d _ _ range => ?_) (fun t _ _ d _ _ range => ?_)
    (fun t now c weight range => range.scanCharged now c weight) (fun t _ _ _ range => ?_)
    (fun t u traffic range => ?_) range
  · exact { range with weight := fun e => by rw [State.scanFailed_config]; exact range.weight e }
  · exact { range with weight := fun e => by rw [State.scanWoken_config]; exact range.weight e }
  · exact { range with }
  · rw [traffic.shape]; exact { range with }

theorem State.FieldsInRange.of_same {s t : State} (range : s.FieldsInRange) (config : ∀ d : DeskId, t.desks[d].config = s.desks[d].config)
    (circuits : t.circuits = s.circuits) (entries : t.matchTable = s.matchTable) (pass : t.currentPass = s.currentPass)
    (repairs : t.repairCount = s.repairCount) : t.FieldsInRange :=
  range.of_within config (fun c => by rw [circuits]; exact .refl _) entries (Nat.le_of_eq pass) (Nat.le_of_eq repairs)

theorem State.sendCurrent_repairCount (s : State) (h : BlockHeader) : (s.sendCurrent h).repairCount = 0 := by
  unfold State.sendCurrent State.takePosition
  split <;> rfl

theorem Move.fieldsInRange {c : Cause} {s t : State} (move : Move c s t) (params : s.ParamsInRange) (range : s.FieldsInRange) :
    t.FieldsInRange := by
  have config := move.config
  cases move with
  | traffic traffic => rw [traffic.shape]; exact { range with }
  | heard =>
    refine range.of_same (config ⟨nofun, nofun, nofun⟩) ?_ ?_ ?_ ?_
    all_goals rw [State.deskHeard_eq]
  | scan => exact State.scan_fieldsInRange range
  | startRepair run =>
    have burst := (params _ (by rw [run]; rfl)).repairBurst.2
    exact { range with repairs := (Nat.min_le_right ..).trans burst }
  | send =>
    refine range.of_within (config ⟨nofun, nofun, nofun⟩) (fun c => ?_) ?_ ?_ ?_
    · rw [State.sendCurrent_shape]; exact .refl _
    · rw [State.sendCurrent_shape]
    · rw [State.sendCurrent_shape]
    · rw [State.sendCurrent_repairCount]; exact Nat.zero_le _
  | wanted => rw [State.insertWanted_eq]; exact { range with }
  | circuit budget decay gap load =>
    refine range.of_within (config ⟨nofun, nofun, nofun⟩) (fun y => ?_) rfl (Nat.le_refl _) (Nat.le_refl _)
    simp only [vector_set_get]
    split
    · next same => rw [← same]; exact ⟨budget, decay, gap, load⟩
    · exact .refl _
  | hit i =>
    refine { range with entry := fun j => ?_ }
    simp only [State.hit, vector_set_get]
    split
    · exact ⟨(range.entry _).1, Nat.min_le_right ..⟩
    · exact range.entry j
  | openSlot run room unfilled length pass sequence => exact { range with pass := pass.2 }
  | close run cause =>
    refine range.of_within (config ⟨nofun, nofun, nofun⟩) (fun c => ?_) ?_ ?_ ?_
    · simp only [State.closed, vector_ofFn_get]
      exact ⟨rfl, rfl, rfl, Nat.le_refl _⟩
    all_goals simp only [State.closed, Nat.zero_le, le_refl]
  | deskWrite idle apart weight =>
    refine { range with weight := fun e => ?_ }
    simp only [vector_set_get]
    split
    · rcases weight with same | range'
      · rw [same]; exact range.weight _
      · exact range'
    · exact range.weight e
  | circuitWrite budget decay gap load =>
    refine { range with circuit := fun y => ?_ }
    simp only [vector_set_get]
    split
    · obtain ⟨budget', decay', gap', load'⟩ := range.circuit _
      exact ⟨budget.elim (fun same => same ▸ budget') id, decay.elim (fun same => same ▸ decay') id,
        gap.elim (fun same => same ▸ gap') id, load ▸ load'⟩
    · exact range.circuit y
  | matchWrite offset hits =>
    refine { range with entry := fun j => ?_ }
    simp only [vector_set_get]
    split
    · exact ⟨offset, by rw [hits]; exact Nat.zero_le _⟩
    · exact range.entry j
  | beginRun =>
    refine range.of_within (config ⟨nofun, nofun, nofun⟩) (fun c => ?_) ?_ ?_ ?_
    · simp only [State.beginRun_eq, vector_ofFn_get]
      exact ⟨rfl, rfl, rfl, Nat.zero_le _⟩
    all_goals simp only [State.beginRun_eq, Nat.zero_le]
  | releaseReport =>
    refine range.of_within (config ⟨nofun, nofun, nofun⟩) (fun c => ?_) ?_ ?_ ?_
    · simp only [State.releaseReport_eq, vector_ofFn_get]
      exact ⟨rfl, rfl, rfl, Nat.zero_le _⟩
    all_goals simp only [State.releaseReport_eq, le_refl]
  | engineReset =>
    refine range.of_within (config ⟨nofun, nofun, nofun⟩) (fun c => ?_) ?_ ?_ ?_
    · simp only [State.engineCleared, vector_ofFn_get]
      exact ⟨rfl, rfl, rfl, Nat.zero_le _⟩
    all_goals simp only [State.engineCleared, Nat.zero_le]
  | fullReset => exact { reset_fieldsInRange with }
  | powerOn => exact { reset_fieldsInRange with }
  | _ =>
    refine range.of_same (config ⟨nofun, nofun, nofun⟩) ?_ ?_ ?_ ?_
    all_goals simp only [State.modifyNight, State.mapNight, State.dropTail, State.queueDesks_eq, State.pauseRun_eq, State.resumeRun_eq]

/-- Settles O57: each move keeps each of the bounds and forms; the ranges with the run parameter record's own. -/
theorem boundsAndFormsStay : Obligations.BoundsAndFormsStay := by
  refine ⟨fun s t good next => ?_, fun s t good next => ?_, fun s t good next => ?_, fun s t good next => ?_,
    fun s t desks good next => ?_⟩
  · exact step_keeps (fun _ _ _ move => move.queuesBounded) good next
  · exact step_keeps (fun _ _ _ move => move.addressesDistinct) good next
  · exact step_keeps (fun _ _ _ move => move.wantedGood) good next
  · exact step_keeps (fun _ _ _ move => move.memoryGood) good next
  · have both : t.ParamsInRange ∧ t.FieldsInRange :=
      step_keeps (P := fun u => u.ParamsInRange ∧ u.FieldsInRange)
        (fun _ _ _ move ⟨params, range⟩ => ⟨move.paramsInRange params, move.fieldsInRange params range⟩) ⟨desks.params, good⟩ next
    exact both.2

end Sys2Proof.Machine
end

section
/-! SUPPORT. Every move keeps the run, the desk records and the Wake Queue in agreement (O58). -/

namespace Sys2Proof.Machine

/-! ## Agreement in the three run states -/

/-- With a run in progress. -/
theorem State.DesksGood.of_running {s : State} {paused : Bool} {info : RunInfo} {deadline : Nat}
    (run : s.run = .running paused info deadline) (params : info.params.InRange)
    (night : ∀ d : DeskId, (s.desks[d].night).Good info.params)
    (held : ∀ (d : DeskId) (t : DeskTimer), s.desks[d].night.timer = some t → t.isHeld = paused) (once : s.wakeQueue.Nodup)
    (exact : ∀ d : DeskId, d ∈ s.wakeQueue ↔ s.desks[d].night.state = .queued) : s.DesksGood where
  params other present := by
    rw [run] at present
    cases present
    exact params
  night other present := by
    rw [run] at present
    cases present
    exact night
  standby standby := by rw [run] at standby; cases standby
  closed stopped := by rw [run] at stopped; cases stopped
  held _ d t present := by
    rw [run]
    exact (held d t present).trans (Bool.not_not paused).symm
  once := once
  exact := exact

/-- With a run closed. -/
theorem State.DesksGood.of_closed {s : State} {info : RunInfo} {cause : CloseCause} {left : Nat}
    (run : s.run = .closed info cause left) (params : info.params.InRange)
    (night : ∀ d : DeskId, (s.desks[d].night).Good info.params) (rest : ∀ d : DeskId, s.desks[d].night.state.busy = false)
    (queue : s.wakeQueue = []) : s.DesksGood where
  params other present := by
    rw [run] at present
    cases present
    exact params
  night other present := by
    rw [run] at present
    cases present
    exact night
  standby standby := by rw [run] at standby; cases standby
  closed _ := rest
  held running := by rw [run] at running; cases running
  once := by rw [queue]; exact List.nodup_nil
  exact d := by
    rw [queue]
    refine ⟨nofun, fun queued => ?_⟩
    have busy := rest d
    rw [queued] at busy
    cases busy

/-- The run, the night fields and the Wake Queue as they were. -/
theorem State.DesksGood.of_same {s t : State} (good : s.DesksGood) (run : t.run = s.run)
    (night : ∀ d : DeskId, t.desks[d].night = s.desks[d].night) (queue : t.wakeQueue = s.wakeQueue) : t.DesksGood where
  params := by rw [run]; exact good.params
  night info present d := by rw [night]; rw [run] at present; exact good.night info present d
  standby standby d := by rw [night]; rw [run] at standby; exact good.standby standby d
  closed stopped d := by rw [night]; rw [run] at stopped; exact good.closed stopped d
  held running d := by rw [night, run]; rw [run] at running; exact good.held running d
  once := by rw [queue]; exact good.once
  exact d := by rw [queue, night]; exact good.exact d

theorem State.Traffic.desksGood {s t : State} (traffic : s.Traffic t) (good : s.DesksGood) : t.DesksGood := by
  refine good.of_same traffic.run (fun d => ?_) ?_
  all_goals rw [traffic.shape]

/-- R12: a timer set in PAUSED is held, and one set in ACTIVE runs. -/
theorem State.newTimer_isHeld {s : State} {paused : Bool} {info : RunInfo} {deadline : Nat}
    (run : s.run = .running paused info deadline) (seconds : Nat) : (s.newTimer seconds).isHeld = paused := by
  rw [State.newTimer_running run]
  cases paused <;> rfl

section
variable {s : State} (good : s.DesksGood) {paused : Bool} {info : RunInfo} {deadline : Nat} (run : s.run = .running paused info deadline)
include good run

theorem State.DesksGood.range : info.params.InRange := good.params info (by rw [run]; rfl)

theorem State.DesksGood.desk (d : DeskId) : (s.desks[d].night).Good info.params := good.night info (by rw [run]; rfl) d

theorem State.DesksGood.isHeld {d : DeskId} {t : DeskTimer} (present : s.desks[d].night.timer = some t) : t.isHeld = paused := by
  have held := good.held (by rw [run]; rfl) d t present
  rw [run] at held
  exact held.trans (Bool.not_not paused)

/-- A change of one desk: the others' night fields stand, and the Wake Queue holds it or not. -/
theorem State.DesksGood.change {t : State} {d : DeskId} (run' : t.run = s.run)
    (others : ∀ e, e ≠ d → t.desks[e].night = s.desks[e].night) (night : (t.desks[d].night).Good info.params)
    (timer : ∀ x, t.desks[d].night.timer = some x → x.isHeld = paused) (once : t.wakeQueue.Nodup)
    (elsewhere : ∀ e, e ≠ d → (e ∈ t.wakeQueue ↔ e ∈ s.wakeQueue)) (here : d ∈ t.wakeQueue ↔ t.desks[d].night.state = .queued) :
    t.DesksGood := by
  refine .of_running (run'.trans run) (good.range run) (fun e => ?_) (fun e x present => ?_) once (fun e => ?_)
  all_goals by_cases same : e = d
  · rw [same]; exact night
  · rw [others e same]; exact good.desk run e
  · rw [same] at present; exact timer x present
  · rw [others e same] at present; exact good.isHeld run present
  · rw [same]; exact here
  · rw [elsewhere e same, others e same]; exact good.exact e

end

/-! ## Changes of one desk -/

theorem State.modifyNight_here (s : State) (d : DeskId) (f : Night → Night) :
    (s.modifyNight d f).desks[d].night = f s.desks[d].night := by
  rw [State.modifyNight_desk, if_pos rfl]

theorem State.modifyNight_elsewhere (s : State) {d e : DeskId} (f : Night → Night) (other : e ≠ d) :
    (s.modifyNight d f).desks[e].night = s.desks[e].night := by
  rw [State.modifyNight_desk, if_neg (Ne.symm other)]

theorem NightChange.desksGood {s : State} {paused : Bool} {info : RunInfo} {deadline : Nat} {d : DeskId} {f : Night → Night}
    (change : NightChange s info s.desks[d].night (f s.desks[d].night)) (run : s.run = .running paused info deadline)
    (good : s.DesksGood) : (s.modifyNight d f).DesksGood := by
  refine good.change run (d := d) rfl (fun e other => s.modifyNight_elsewhere f other) ?_ (fun x present => ?_) good.once
    (fun e _ => Iff.rfl) ?_
  · rw [State.modifyNight_here]
    exact change.good (good.desk run d)
  · rw [State.modifyNight_here] at present
    rcases change.timer with old | gone | ⟨seconds, new⟩
    · exact good.isHeld run (old.symm.trans present)
    · cases gone.symm.trans present
    · cases new.symm.trans present
      exact State.newTimer_isHeld run seconds
  · rw [State.modifyNight_here]
    exact iff_of_false (fun mem => change.wasNotQueued ((good.exact d).1 mem)) change.notQueued

/-- A desk taken out of the Wake Queue, whatever becomes of it. -/
theorem State.DesksGood.dequeued {s : State} {paused : Bool} {info : RunInfo} {deadline : Nat} {d : DeskId} {f : Night → Night}
    (good : s.DesksGood) (run : s.run = .running paused info deadline) (night : (f s.desks[d].night).Good info.params)
    (timer : ∀ x, (f s.desks[d].night).timer = some x → x.isHeld = paused) (notQueued : (f s.desks[d].night).state ≠ .queued) :
    ((s.withoutQueued d).modifyNight d f).DesksGood := by
  refine good.change run (d := d) rfl (fun e other => (s.withoutQueued d).modifyNight_elsewhere f other) ?_ (fun x present => ?_)
    (good.once.filter _) (fun e other => ?_) ?_
  · rw [State.modifyNight_here]; exact night
  · rw [State.modifyNight_here] at present; exact timer x present
  · exact mem_filter_ne.trans (and_iff_left other)
  · rw [State.modifyNight_here]
    exact iff_of_false (fun mem => (mem_filter_ne.1 mem).2 rfl) notQueued

/-- R36, R37: a desk heard. -/
theorem State.DesksGood.deskHeard {s : State} (good : s.DesksGood) (d : DeskId) : (s.deskHeard d).DesksGood := by
  unfold State.deskHeard
  split
  · next paused info deadline run =>
    split
    · next awaits =>
      have timer (x : DeskTimer) (present : some (s.newTimer info.params.discoveryTimeout) = some x) : x.isHeld = paused := by
        cases present
        exact State.newTimer_isHeld run _
      have queue : s.unqueue d = s.withoutQueued d := by
        rw [State.unqueue_eq]
        split
        · rfl
        · next notQueued =>
          have absent : s.wakeQueue.filter (· != d) = s.wakeQueue := by
            refine List.filter_eq_self.2 fun e mem => bne_iff_ne.2 ?_
            rintro rfl
            exact notQueued ((good.exact e).1 mem)
          rw [State.withoutQueued, absent]
      rw [queue]
      exact good.dequeued run ((good.desk run d).heard awaits _) timer nofun
    · exact good
  · exact good

/-- R13: a desk in WAKING queued again. -/
theorem State.DesksGood.requeued {s : State} {paused : Bool} {info : RunInfo} {deadline : Nat} {d : DeskId} (good : s.DesksGood)
    (run : s.run = .running paused info deadline) (waking : s.desks[d].night.state = .waking)
    (below : s.desks[d].night.wakeAttempts < info.params.wakeAttemptLimit) :
    State.DesksGood { s.modifyNight d (fun n => { n with state := .queued, timer := none }) with wakeQueue := s.wakeQueue ++ [d] } := by
  have absent : d ∉ s.wakeQueue := fun mem => by
    have queued := (good.exact d).1 mem
    rw [waking] at queued
    cases queued
  refine good.change run (d := d) rfl (fun e other => ?_) ?_ (fun x present => ?_) ?_ (fun e other => ?_) ?_
  · dsimp only
    exact s.modifyNight_elsewhere _ other
  · rw [State.modifyNight_here]; exact (good.desk run d).requeued waking below
  · rw [State.modifyNight_here] at present; cases present
  · exact good.once.append (List.nodup_singleton d) (List.disjoint_singleton.2 absent)
  · rw [List.mem_append, List.mem_singleton]
    exact or_iff_left other
  · rw [State.modifyNight_here]
    exact iff_of_true (List.mem_append_right _ (List.mem_singleton_self d)) rfl

/-- R31: a desk over budget fails. -/
theorem State.DesksGood.scanFailed {s : State} {info : RunInfo} {deadline : Nat} {d : DeskId} (good : s.DesksGood)
    (run : s.run = .running false info deadline) (queued : s.desks[d].night.state = .queued) : (s.scanFailed d).DesksGood := by
  have failed : ((s.withoutQueued d).modifyNight d (Night.failed .overBudget)).DesksGood :=
    good.dequeued run ((good.desk run d).failed' (by rw [queued]; rfl) .overBudget) nofun nofun
  unfold State.scanFailed
  exact failed.of_same rfl (fun _ => rfl) rfl

/-- R33: a desk woken. -/
theorem State.DesksGood.scanWoken {s : State} {info : RunInfo} {deadline : Nat} {d : DeskId} (good : s.DesksGood)
    (run : s.run = .running false info deadline) (queued : s.desks[d].night.state = .queued) : (s.scanWoken info d).DesksGood := by
  refine good.dequeued run ((good.desk run d).woken queued _) (fun x present => ?_) nofun
  cases present
  exact State.newTimer_isHeld run _

/-! ## Changes of every desk -/

/-- R73: the lag counts of desks that are not IDLE. -/
theorem State.DesksGood.lagged {s t : State} (good : s.DesksGood) {late : DeskId → Bool}
    (notIdle : ∀ d, late d = true → s.desks[d].night.state ≠ .idle) (run : t.run = s.run) (queue : t.wakeQueue = s.wakeQueue)
    (night : ∀ d : DeskId, t.desks[d].night = if late d then s.desks[d].night.lagged else s.desks[d].night) : t.DesksGood := by
  have same (d : DeskId) : (if late d then s.desks[d].night.lagged else s.desks[d].night).state = s.desks[d].night.state ∧
      (if late d then s.desks[d].night.lagged else s.desks[d].night).timer = s.desks[d].night.timer := by
    split <;> exact ⟨rfl, rfl⟩
  exact
    { params := by rw [run]; exact good.params
      night := fun info present d => by
        rw [night]
        rw [run] at present
        split
        · next lagging => exact (good.night info present d).lagged (notIdle d lagging)
        · exact good.night info present d
      standby := fun standby d => by
        rw [run] at standby
        rw [night, if_neg fun lagging => notIdle d lagging (by rw [good.standby standby d]; rfl)]
        exact good.standby standby d
      closed := fun stopped d => by rw [run] at stopped; rw [night, (same d).1]; exact good.closed stopped d
      held := fun running d => by rw [run] at running ⊢; rw [night, (same d).2]; exact good.held running d
      once := by rw [queue]; exact good.once
      exact := fun d => by rw [queue, night, (same d).1]; exact good.exact d }

/-- R122, R126: desks that are not queued, each once, queued afresh. -/
theorem State.DesksGood.queueDesks {s : State} {paused : Bool} {info : RunInfo} {deadline : Nat} (good : s.DesksGood)
    (run : s.run = .running paused info deadline) {ds : List DeskId} (once : ds.Nodup)
    (notQueued : ∀ d ∈ ds, s.desks[d].night.state ≠ .queued) : (s.queueDesks ds).DesksGood := by
  have night (d : DeskId) : (s.queueDesks ds).desks[d].night = if ds.contains d then Night.queuedAfresh else s.desks[d].night := by
    rw [State.queueDesks_eq]
    simp only [vector_ofFn_get]
    split <;> rfl
  have queue : (s.queueDesks ds).wakeQueue = s.wakeQueue ++ ds := by rw [State.queueDesks_eq]
  have run' : (s.queueDesks ds).run = s.run := by rw [State.queueDesks_eq]
  refine .of_running (run'.trans run) (good.range run) (fun d => ?_) (fun d x present => ?_) ?_ (fun d => ?_)
  · rw [night]
    split
    · exact .queuedAfresh (good.range run)
    · exact good.desk run d
  · rw [night] at present
    split at present
    · cases present
    · exact good.isHeld run present
  · rw [queue]
    exact good.once.append once fun d mem mem' => notQueued d mem' ((good.exact d).1 mem)
  · rw [queue, night, List.mem_append, good.exact]
    split
    · next mem => exact iff_of_true (.inr (List.contains_iff_mem.1 mem)) rfl
    · next absent => exact or_iff_left fun mem => absent (List.contains_iff_mem.2 mem)

theorem State.DesksGood.queue_nil {s : State} (good : s.DesksGood) (stopped : s.run.inProgress = false) : s.wakeQueue = [] := by
  refine List.eq_nil_iff_forall_not_mem.2 fun d mem => ?_
  have busy := good.closed stopped d
  rw [(good.exact d).1 mem] at busy
  cases busy

/-- R122: a run begins. -/
theorem State.DesksGood.beginRun {s : State} (good : s.DesksGood) (run : s.run = .standby) {p : RunParams} (range : p.InRange)
    (owner : MacAddr) : (s.beginRun owner p).DesksGood := by
  have queue : (s.beginRun owner p).wakeQueue = s.enrolledDesks := by
    rw [State.beginRun_eq]
    exact (congrArg (· ++ s.enrolledDesks) (good.queue_nil (by rw [run]; rfl))).trans (List.nil_append _)
  have night (d : DeskId) : (s.beginRun owner p).desks[d].night = if s.desks[d].config.enrols then Night.queuedAfresh else Night.idle := by
    rw [State.beginRun_eq]
    simp only [vector_ofFn_get]
    split
    · rfl
    · exact good.standby run d
  refine .of_running (paused := false) (by rw [State.beginRun_eq]) range (fun d => ?_) (fun d x present => ?_) ?_ (fun d => ?_)
  · rw [night]
    split
    · exact .queuedAfresh range
    · exact .idle' p
  · rw [night] at present
    split at present <;> cases present
  · rw [queue]
    exact (List.nodup_finRange 128).filter _
  · rw [queue, night, State.enrolledDesks, List.mem_filter]
    split
    · next enrols => exact iff_of_true ⟨List.mem_finRange d, enrols⟩ rfl
    · next other => exact iff_of_false (fun mem => other mem.2) nofun

/-- R12: the timers of a run held or released. -/
theorem State.DesksGood.retimed {s t : State} {paused paused' : Bool} {info : RunInfo} {deadline : Nat} (good : s.DesksGood)
    (run : s.run = .running paused info deadline) (run' : t.run = .running paused' info deadline) {f : DeskTimer → DeskTimer}
    (night : ∀ d : DeskId, t.desks[d].night = { s.desks[d].night with timer := s.desks[d].night.timer.map f })
    (held : ∀ x, (f x).isHeld = paused') (queue : t.wakeQueue = s.wakeQueue) : t.DesksGood := by
  refine .of_running run' (good.range run) (fun d => ?_) (fun d x present => ?_) (by rw [queue]; exact good.once) (fun d => ?_)
  · rw [night]
    exact (good.desk run d).retimed f
  · rw [night] at present
    obtain ⟨y, -, rfl⟩ := Option.map_eq_some_iff.1 present
    exact held y
  · rw [queue, night]
    exact good.exact d

theorem State.DesksGood.pauseRun {s : State} {info : RunInfo} {deadline : Nat} (good : s.DesksGood)
    (run : s.run = .running false info deadline) : (s.pauseRun info deadline).DesksGood := by
  rw [State.pauseRun_eq]
  refine good.retimed run rfl (fun d => ?_) (f := DeskTimer.hold s.now) (fun x => ?_) rfl
  · simp only [vector_ofFn_get]
  · cases x <;> rfl

theorem State.DesksGood.resumeRun {s : State} {info : RunInfo} {deadline : Nat} (good : s.DesksGood)
    (run : s.run = .running true info deadline) : (s.resumeRun info deadline).DesksGood := by
  rw [State.resumeRun_eq]
  refine good.retimed run rfl (fun d => ?_) (f := DeskTimer.release s.now) (fun x => ?_) rfl
  · simp only [vector_ofFn_get]
  · cases x <;> rfl

/-- R129: the busy desks fail at a close. -/
theorem State.DesksGood.closeRun {s : State} {paused : Bool} {info : RunInfo} {deadline : Nat} (good : s.DesksGood)
    (run : s.run = .running paused info deadline) (cause : CloseCause) : (s.closed info deadline cause).DesksGood := by
  have night (d : DeskId) : (s.closed info deadline cause).desks[d].night =
      if s.desks[d].night.state.busy then s.desks[d].night.failed .runEnded else s.desks[d].night := by
    simp only [State.closed, vector_ofFn_get]
    split <;> rfl
  refine .of_closed (by rw [State.closed]) (good.range run) (fun d => ?_) (fun d => ?_) (by rw [State.closed])
  · rw [night]
    split
    · next busy => exact (good.desk run d).failed' busy .runEnded
    · exact good.desk run d
  · rw [night]
    split
    · rfl
    · next rest => exact Bool.eq_false_iff.2 rest

/-- R131: a release leaves every desk idle. -/
theorem State.DesksGood.releaseReport {s : State} {info : RunInfo} {cause : CloseCause} {left : Nat} (good : s.DesksGood)
    (run : s.run = .closed info cause left) : s.releaseReport.DesksGood := by
  refine .of_idle (by rw [State.releaseReport_eq]) (fun d => ?_) ?_
  · rw [State.releaseReport_eq]
    simp only [vector_ofFn_get]
    split
    · next idle => exact (good.night info (by rw [run]; rfl) d).idle idle
    · rfl
  · rw [State.releaseReport_eq]
    exact good.queue_nil (by rw [run]; rfl)

theorem engineCleared_desksGood (s : State) : s.engineCleared.DesksGood := by
  refine .of_idle (by rw [State.engineCleared]) (fun d => ?_) (by rw [State.engineCleared])
  simp only [State.engineCleared, vector_ofFn_get]

/-- R20: every desk idle after a FULL RESET or a loss of power. -/
theorem reset_desksGood {s : State} (run : s.run = .standby) (desks : s.desks = State.reset.desks) (queue : s.wakeQueue = []) :
    s.DesksGood :=
  .of_idle run (fun d => by rw [desks, reset_desk]; rfl) queue

theorem State.scan_desksGood {s : State} (good : s.DesksGood) : s.scan.1.DesksGood := by
  refine State.scan_keeps (P := State.DesksGood) (fun t info deadline d run mem good' => ?_) (fun t info deadline d run mem good' => ?_)
    (fun t now c weight good' => ?_) (fun t _ _ _ good' => ?_) (fun t u traffic good' => traffic.desksGood good') good
  · exact good'.scanFailed run ((good'.exact d).1 (mem good.once))
  · exact good'.scanWoken run ((good'.exact d).1 (mem good.once))
  · exact good'.of_same rfl (fun _ => rfl) rfl
  · exact good'.of_same rfl (fun _ => rfl) rfl

/-- R126: the desks that an ENQUEUE queues are idle or failed. -/
theorem State.enqueueDesks_rest {s : State} {first last : Nat} {d : DeskId} (mem : d ∈ s.enqueueDesks first last) :
    s.desks[d].night.state = .idle ∨ s.desks[d].night.state = .failed := by
  have fits := (List.mem_filter.1 mem).2
  simp only [Bool.and_eq_true, Desk.enqueueable, Bool.or_eq_true, beq_iff_eq] at fits
  exact fits.2.2

theorem Run.inProgress_iff (run : Run) : run.inProgress = true ↔ ∃ paused info deadline, run = .running paused info deadline := by
  cases run with
  | running paused info deadline => exact iff_of_true rfl ⟨paused, info, deadline, rfl⟩
  | standby => exact iff_of_false nofun nofun
  | closed info cause left => exact iff_of_false nofun nofun

/-- Every move keeps the agreement, where the desks in a pending set are JOINED. -/
theorem Move.desksGood {c : Cause} {s t : State} (move : Move c s t) (good : s.DesksGood)
    (pending : ∀ (i : SlotId) (d : DeskId), d ∈ (s.slots[i]).waiting → s.isJoined d = true) : t.DesksGood := by
  have joined {i : SlotId} {d : DeskId} (mem : (s.slots[i]).waiting.contains d = true) : s.desks[d].night.state ≠ .idle := by
    have joined := eq_of_beq (pending i d (List.contains_iff_mem.1 mem))
    rw [joined]
    nofun
  cases move with
  | scan => exact State.scan_desksGood good
  | traffic traffic => exact traffic.desksGood good
  | heard => exact good.deskHeard _
  | night run change => exact change.desksGood run good
  | requeue run waking below => exact good.requeued run waking below
  | leave run change => exact (change.desksGood run good).of_same rfl (fun _ => rfl) rfl
  | lag _ i =>
    refine good.lagged (late := fun d => (s.slots[i]).waiting.contains d) (fun d mem => joined mem) (State.mapNight_run ..)
      (State.mapNight_wakeQueue ..) fun d => ?_
    rw [State.mapNight_desk]
  | send => rw [State.sendCurrent_shape]; exact good.of_same rfl (fun _ => rfl) rfl
  | wanted => rw [State.insertWanted_eq]; exact good.of_same rfl (fun _ => rfl) rfl
  | queueDesks progress first last =>
    obtain ⟨paused, info, deadline, run⟩ := s.run.inProgress_iff.1 progress
    refine good.queueDesks run ((List.nodup_finRange 128).filter _) fun d mem queued => ?_
    rcases State.enqueueDesks_rest mem with rest | rest <;> cases queued.symm.trans rest
  | close run cause => exact good.closeRun run cause
  | deskWrite =>
    refine good.of_same rfl (fun e => ?_) rfl
    simp only [vector_set_get]
    split
    · next same => rw [same]
    · rfl
  | beginRun run range owner => exact good.beginRun run range owner
  | pauseRun run => exact good.pauseRun run
  | resumeRun run => exact good.resumeRun run
  | releaseReport run => exact good.releaseReport run
  | engineReset => exact engineCleared_desksGood s
  | fullReset => exact reset_desksGood rfl rfl rfl
  | powerOn => exact reset_desksGood rfl rfl rfl
  | _ => exact good.of_same rfl (fun _ => rfl) rfl

/-! ## The Control Queue in STANDBY -/

theorem Move.controlQuiet {c : Cause} {s t : State} (move : Move c s t) (quiet : s.ControlQuiet) : t.ControlQuiet := by
  have same {u : State} (run : u.run = s.run) (control : u.controlQueue = s.controlQueue) : u.ControlQuiet := by
    intro standby
    rw [control]
    exact quiet (run.symm.trans standby)
  cases move with
  | traffic traffic => exact fun standby => traffic.quiet (traffic.run.symm.trans standby) (quiet (traffic.run.symm.trans standby))
  | scan =>
    intro standby
    rw [State.scan_run] at standby
    rw [State.scan_notActive (by rw [standby]; rfl)]
    exact quiet standby
  | heard => rw [State.deskHeard_eq]; exact same rfl rfl
  | send => rw [State.sendCurrent_shape]; exact same rfl rfl
  | wanted => rw [State.insertWanted_eq]; exact same rfl rfl
  | close => exact fun _ => by rw [State.closed]
  | beginRun => rw [State.beginRun_eq]; nofun
  | pauseRun => rw [State.pauseRun_eq]; nofun
  | resumeRun => rw [State.resumeRun_eq]; nofun
  | releaseReport => exact fun _ => by rw [State.releaseReport_eq]
  | engineReset => exact fun _ => by rw [State.engineCleared]
  | fullReset => exact fun _ => rfl
  | powerOn => exact fun _ => rfl
  | _ =>
    refine same ?_ ?_
    all_goals simp only [State.modifyNight, State.mapNight, State.dropTail, State.hit, State.queueDesks_eq]

end Sys2Proof.Machine
end

section
/-! SUPPORT. The order of the Block Ring (R59): how each block operation moves its three bounds. -/

namespace Sys2Proof.Machine

/-! ## Places -/

theorem ring_add (t : SlotId) (a b : Nat) : t + Fin.ofNat 64 a + Fin.ofNat 64 b = t + Fin.ofNat 64 (a + b) := by
  apply Fin.ext; simp only [Fin.val_add, Fin.ofNat_eq_cast, Fin.val_natCast]; omega

theorem ring_next (t : SlotId) (a : Nat) : t + Fin.ofNat 64 a + 1 = t + Fin.ofNat 64 (a + 1) := ring_add t a 1

theorem ring_mod (t : SlotId) (a : Nat) : t + Fin.ofNat 64 (a % 64) = t + Fin.ofNat 64 a := by
  apply Fin.ext; simp only [Fin.val_add, Fin.ofNat_eq_cast, Fin.val_natCast]; omega

/-- R59: what the slot k places from the tail is, with a slots SENT, b READY and c FILLING. -/
def Slot.Placed (a b c k : Nat) (x : Slot) : Prop :=
  (k < a → x.isSent = true) ∧ (a ≤ k → k < a + b → x.isReady = true) ∧ (a + b ≤ k → k < a + b + c → x.isFilling = true) ∧
    (a + b + c ≤ k → x = .empty)

section
variable {a b c k : Nat} {x : Slot} (placed : x.Placed a b c k)
include placed

theorem Slot.Placed.of_sent (sent : x.isSent = true) : k < a := by
  obtain ⟨-, ready, filling, empty⟩ := placed
  cases x with
  | sent =>
    by_contra beyond
    by_cases second : k < a + b
    · cases ready (by omega) second
    · by_cases third : k < a + b + c
      · cases filling (by omega) third
      · cases empty (by omega)
  | _ => cases sent

theorem Slot.Placed.of_ready (ready : x.isReady = true) : a ≤ k ∧ k < a + b := by
  obtain ⟨sent, -, filling, empty⟩ := placed
  cases x with
  | ready =>
    by_contra outside
    by_cases first : k < a
    · cases sent first
    · by_cases third : k < a + b + c
      · cases filling (by omega) third
      · cases empty (by omega)
  | _ => cases ready

theorem Slot.Placed.of_filling (filling : x.isFilling = true) : a + b ≤ k ∧ k < a + b + c := by
  obtain ⟨sent, ready, -, empty⟩ := placed
  cases x with
  | filling =>
    by_contra outside
    by_cases first : k < a
    · cases sent first
    · by_cases second : k < a + b
      · cases ready (by omega) second
      · cases empty (by omega)
  | _ => cases filling

theorem Slot.Placed.of_empty (empty : x = .empty) : a + b + c ≤ k := by
  obtain ⟨sent, ready, filling, -⟩ := placed
  subst empty
  by_contra inside
  by_cases first : k < a
  · cases sent first
  · by_cases second : k < a + b
    · cases ready (by omega) second
    · cases filling (by omega) (by omega)

/-- A place that the bounds leave on the same side of each. -/
theorem Slot.Placed.moved {a' b' c' k' : Nat} (sent : k' < a' ↔ k < a) (ready : k' < a' + b' ↔ k < a + b)
    (filling : k' < a' + b' + c' ↔ k < a + b + c) : x.Placed a' b' c' k' := by
  obtain ⟨isSent, isReady, isFilling, empty⟩ := placed
  exact ⟨fun low => isSent (by omega), fun low high => isReady (by omega) (by omega), fun low high => isFilling (by omega) (by omega),
    fun low => empty (by omega)⟩

end

theorem Slot.Placed.sent {a b c k : Nat} {x : Slot} (sent : x.isSent = true) (low : k < a) : x.Placed a b c k :=
  ⟨fun _ => sent, fun _ _ => by omega, fun _ _ => by omega, fun _ => by omega⟩

theorem Slot.Placed.ready {a b c k : Nat} {x : Slot} (ready : x.isReady = true) (low : a ≤ k) (high : k < a + b) : x.Placed a b c k :=
  ⟨fun _ => by omega, fun _ _ => ready, fun _ _ => by omega, fun _ => by omega⟩

theorem Slot.Placed.filling {a b c k : Nat} {x : Slot} (filling : x.isFilling = true) (low : a + b ≤ k) (high : k < a + b + c) :
    x.Placed a b c k :=
  ⟨fun _ => by omega, fun _ _ => by omega, fun _ _ => filling, fun _ => by omega⟩

theorem Slot.Placed.empty {a b c k : Nat} (low : a + b + c ≤ k) : Slot.empty.Placed a b c k :=
  ⟨fun _ => by omega, fun _ _ => by omega, fun _ _ => by omega, fun _ => rfl⟩

/-! ## The order, with its bounds -/

/-- R59, with the bounds named. -/
structure State.ArrangedBy (s : State) (a b c : Nat) : Prop where
  one : c ≤ 1
  fit : a + b + c ≤ 64
  current : s.current = s.tail + Fin.ofNat 64 a
  fill : s.fill = s.current + Fin.ofNat 64 b
  placed : ∀ k < 64, ∀ i : SlotId, i = s.tail + Fin.ofNat 64 k → (s.slots[i]).Placed a b c k

theorem State.arranged_iff (s : State) : s.Arranged ↔ ∃ a b c, s.ArrangedBy a b c :=
  ⟨fun ⟨a, b, c, one, fit, current, fill, placed⟩ => ⟨a, b, c, one, fit, current, fill, fun k low _ place => place ▸ placed k low⟩,
    fun ⟨a, b, c, order⟩ => ⟨a, b, c, order.one, order.fit, order.current, order.fill, fun k low => order.placed k low _ rfl⟩⟩

section
variable {s : State} {a b c : Nat} (order : s.ArrangedBy a b c)
include order

theorem State.ArrangedBy.fill_eq : s.fill = s.tail + Fin.ofNat 64 (a + b) := by
  rw [order.fill, order.current, ring_add]

/-- A FILLING slot at fill is the one slot that FILLING adds. -/
theorem State.ArrangedBy.of_filling (filling : (s.slots[s.fill]).isFilling = true) : c = 1 := by
  have place := order.placed ((a + b) % 64) (Nat.mod_lt _ (by decide)) s.fill (by rw [ring_mod, order.fill_eq])
  have bounds := place.of_filling filling
  have one := order.one
  omega

/-- A READY slot at current is the first that READY adds. -/
theorem State.ArrangedBy.of_ready (ready : (s.slots[s.current]).isReady = true) : 1 ≤ b := by
  have place := order.placed (a % 64) (Nat.mod_lt _ (by decide)) s.current (by rw [ring_mod, order.current])
  have bounds := place.of_ready ready
  omega

/-- A SENT slot at the tail is the first that SENT adds. -/
theorem State.ArrangedBy.of_sent (sent : (s.slots[s.tail]).isSent = true) : 1 ≤ a := by
  exact (order.placed 0 (by decide) s.tail (ring_zero _).symm).of_sent sent

/-- Without a FILLING slot, and with an EMPTY one, a slot can be opened at fill. -/
theorem State.ArrangedBy.of_room (room : ∃ i : SlotId, s.slots[i] = .empty) (unfilled : ∀ i : SlotId, (s.slots[i]).isFilling = false) :
    c = 0 ∧ a + b < 64 := by
  obtain ⟨i, empty⟩ := room
  obtain ⟨k, low, place⟩ := ring_surj s.tail i
  have beyond := (order.placed k low i place).of_empty empty
  have none : c = 0 := by
    by_contra some_filling
    have filling := (order.placed (a + b) (by omega) _ rfl).2.2.1 (Nat.le_refl _) (by omega)
    rw [unfilled] at filling
    cases filling
  exact ⟨none, by omega⟩

/-- One slot changed, k places from the tail: it falls into its place, and the bounds leave every other slot on its side. -/
theorem State.ArrangedBy.set {t : State} {a' b' c' k : Nat} {x : Slot} {i : SlotId} (low : k < 64)
    (place : i = s.tail + Fin.ofNat 64 k) (tail : t.tail = s.tail)
    (current : t.current = t.tail + Fin.ofNat 64 a') (fill : t.fill = t.current + Fin.ofNat 64 b') (one : c' ≤ 1) (fit : a' + b' + c' ≤ 64)
    (slots : t.slots = s.slots.set i x) (here : x.Placed a' b' c' k)
    (others : ∀ j, j ≠ k → (j < a' ↔ j < a) ∧ (j < a' + b' ↔ j < a + b) ∧ (j < a' + b' + c' ↔ j < a + b + c)) :
    t.ArrangedBy a' b' c' where
  one := one
  fit := fit
  current := current
  fill := fill
  placed j inside i' place' := by
    rw [tail] at place'
    rw [slots, vector_set_get]
    split
    · next same => rw [← (ring_inj low inside).1 (place.symm.trans (same.trans place'))]; exact here
    · next other =>
      obtain ⟨sent, ready, filling⟩ := others j fun same => other (by rw [place, place', same])
      exact (order.placed j inside i' place').moved sent ready filling

/-- R62: a slot opened at fill. -/
theorem State.ArrangedBy.openSlot {t : State} {h : BlockHeader} {m : Vector Bool 8} (none : c = 0) (room : a + b < 64)
    (tail : t.tail = s.tail) (current : t.current = s.current) (fill : t.fill = s.fill) (slots : t.slots = s.slots.set s.fill (.filling h m)) :
    t.ArrangedBy a b 1 := by
  subst none
  refine order.set (k := a + b) room order.fill_eq tail (by rw [current, tail]; exact order.current) (by rw [fill, current]; exact order.fill)
    (Nat.le_refl _) (by omega) slots (.filling rfl (by omega) (by omega)) fun j other => ⟨Iff.rfl, Iff.rfl, by omega⟩

/-- R64: a fragment joins the map of the slot at fill. -/
theorem State.ArrangedBy.mark {t : State} {h : BlockHeader} {m : Vector Bool 8} (filling : c = 1)
    (tail : t.tail = s.tail) (current : t.current = s.current) (fill : t.fill = s.fill) (slots : t.slots = s.slots.set s.fill (.filling h m)) :
    t.ArrangedBy a b 1 := by
  subst filling
  have fit := order.fit
  exact order.set (k := a + b) (by omega) order.fill_eq tail (by rw [current, tail]; exact order.current) (by rw [fill, current]; exact order.fill)
    (Nat.le_refl _) fit slots (.filling rfl (by omega) (by omega)) fun j other => ⟨Iff.rfl, Iff.rfl, Iff.rfl⟩

/-- R65: the block at fill becomes READY. -/
theorem State.ArrangedBy.blockReady {t : State} {h : BlockHeader} (filling : c = 1)
    (tail : t.tail = s.tail) (current : t.current = s.current) (fill : t.fill = s.fill + 1) (slots : t.slots = s.slots.set s.fill (.ready h)) :
    t.ArrangedBy a (b + 1) 0 := by
  subst filling
  have fit := order.fit
  exact order.set (k := a + b) (by omega) order.fill_eq tail (by rw [current, tail]; exact order.current)
    (by rw [fill, current, order.fill, ring_next]) (Nat.zero_le _) (by omega) slots
    (.ready rfl (by omega) (by omega)) fun j other => ⟨Iff.rfl, by omega, by omega⟩

/-- R65: the block at fill is given up. -/
theorem State.ArrangedBy.blockFailed {t : State} (filling : c = 1)
    (tail : t.tail = s.tail) (current : t.current = s.current) (fill : t.fill = s.fill) (slots : t.slots = s.slots.set s.fill .empty) :
    t.ArrangedBy a b 0 := by
  subst filling
  have fit := order.fit
  exact order.set (k := a + b) (by omega) order.fill_eq tail (by rw [current, tail]; exact order.current) (by rw [fill, current]; exact order.fill)
    (Nat.zero_le _) (by omega) slots (.empty (by omega)) fun j other => ⟨Iff.rfl, Iff.rfl, by omega⟩

/-- R84: the slot at current becomes SENT. -/
theorem State.ArrangedBy.send {t : State} {x : Slot} (ready : 1 ≤ b) (sent : x.isSent = true)
    (tail : t.tail = s.tail) (current : t.current = s.current + 1) (fill : t.fill = s.fill) (slots : t.slots = s.slots.set s.current x) :
    t.ArrangedBy (a + 1) (b - 1) c := by
  have fit := order.fit
  refine order.set (k := a) (by omega) order.current tail (by rw [current, tail, order.current, ring_next]) ?_ order.one (by omega)
    slots (.sent sent (by omega)) fun j other => ⟨by omega, by omega, by omega⟩
  rw [fill, current, order.fill_eq, order.current, ring_next, ring_add]
  exact congrArg (s.tail + Fin.ofNat 64 ·) (by omega)

/-- R70: the SENT slot at the tail is emptied. -/
theorem State.ArrangedBy.dropTail (sent : 1 ≤ a) : s.dropTail.ArrangedBy (a - 1) b c where
  one := order.one
  fit := by have := order.fit; omega
  current := by
    change s.current = s.tail + 1 + Fin.ofNat 64 (a - 1)
    rw [order.current, ring_succ, Nat.sub_add_cancel sent]
  fill := order.fill
  placed k low i place := by
    have fit := order.fit
    have place' : i = s.tail + Fin.ofNat 64 (k + 1) := place.trans (ring_succ s.tail k)
    rw [State.dropTail_slots]
    by_cases last : k = 63
    · subst last
      rw [if_pos (place'.trans (ring_wraps s.tail)).symm]
      exact .empty (by omega)
    · rw [if_neg fun same => absurd ((ring_eq_self (by omega)).1 (same.trans place')) (Nat.succ_ne_zero k)]
      exact (order.placed (k + 1) (by omega) i place').moved (by omega) (by omega) (by omega)

/-- R66: a block still FILLING is discarded. -/
theorem State.ArrangedBy.discard {t : State} (tail : t.tail = s.tail) (current : t.current = s.current) (fill : t.fill = s.fill)
    (slots : ∀ i : SlotId, t.slots[i] = if (s.slots[i]).isFilling then .empty else s.slots[i]) : t.ArrangedBy a b 0 where
  one := Nat.zero_le _
  fit := by have := order.fit; omega
  current := by rw [current, tail]; exact order.current
  fill := by rw [fill, current]; exact order.fill
  placed k low i place := by
    have placed := order.placed k low i (by rw [place, tail])
    rw [slots]
    split
    · next filling => exact .empty (placed.of_filling filling).1
    · next other =>
      refine ⟨placed.1, placed.2.1, fun _ _ => by omega, fun beyond => placed.2.2.2 ?_⟩
      by_contra inside
      exact other (placed.2.2.1 (by omega) (by omega))

end

/-- R79: an empty ring, its three places the same. -/
theorem State.ArrangedBy.of_empty {s : State} (slots : s.slots = Vector.replicate 64 .empty) (current : s.current = s.tail)
    (fill : s.fill = s.tail) : s.ArrangedBy 0 0 0 where
  one := Nat.zero_le _
  fit := Nat.zero_le _
  current := by rw [current, ring_zero]
  fill := by rw [fill, current, ring_zero]
  placed k low i place := by
    rw [slots, vector_replicate_get]
    exact .empty (Nat.zero_le _)

/-- The pointers as they were, and each slot in its state. -/
theorem State.ArrangedBy.of_alike {s t : State} {a b c : Nat} (order : s.ArrangedBy a b c) (tail : t.tail = s.tail)
    (current : t.current = s.current) (fill : t.fill = s.fill)
    (slots : ∀ (i : SlotId) (k : Nat), (s.slots[i]).Placed a b c k → (t.slots[i]).Placed a b c k) : t.ArrangedBy a b c where
  one := order.one
  fit := order.fit
  current := by rw [current, tail]; exact order.current
  fill := by rw [fill, current]; exact order.fill
  placed k low i place := slots i k (order.placed k low i (by rw [place, tail]))

end Sys2Proof.Machine
end

section
/-! SUPPORT. Every move keeps the Block Ring, the pending sets, the Repair Queue and the Stream Engine in agreement (O59). -/

namespace Sys2Proof.Machine

/-! ## One slot -/

/-- R80, R81: a stream position that has been taken. -/
def State.Taken (s : State) (p : Nat) : Prop := p < s.position ∨ (s.exhausted = true ∧ p = s.position)

/-- What the ring asks of each slot by itself. -/
structure Slot.Fits (x : Slot) (s : State) : Prop where
  header : ∀ h, x.header? = some h →
    1 ≤ h.length ∧ h.length ≤ 8192 ∧ h.pass ≤ s.currentPass ∧ ∀ info, s.run.info? = some info → h.sequence < info.params.blockCount
  partly : ∀ h m, x = .filling h m → mapComplete m (fragmentCount h.length) = false
  joined : ∀ d ∈ x.waiting, s.isJoined d = true
  once : x.waiting.Nodup
  position : ∀ p, x.position? = some p → s.Taken p

theorem Slot.Fits.empty (s : State) : Slot.empty.Fits s := ⟨nofun, nofun, nofun, List.nodup_nil, nofun⟩

theorem State.RingGood.fits {s : State} (good : s.RingGood) (i : SlotId) : (s.slots[i]).Fits s :=
  ⟨good.headers i, good.partly i, good.pendingJoined i, good.pendingOnce i, good.positions i⟩

/-- R73, R70: a slot but for the desks that left its pending set. -/
inductive Slot.Thinned : Slot → Slot → Prop
  | same (x : Slot) : Slot.Thinned x x
  | left (h : BlockHeader) (position firstSend : Nat) {waiting waiting' : List DeskId} (sub : waiting'.Sublist waiting) :
      Slot.Thinned (.sent h position firstSend waiting) (.sent h position firstSend waiting')

section
variable {x y : Slot} (thinned : x.Thinned y)
include thinned

theorem Slot.Thinned.header : y.header? = x.header? := by cases thinned <;> rfl

theorem Slot.Thinned.position : y.position? = x.position? := by cases thinned <;> rfl

theorem Slot.Thinned.isSent : y.isSent = x.isSent := by cases thinned <;> rfl

theorem Slot.Thinned.waiting : y.waiting.Sublist x.waiting := by
  cases thinned with
  | same => exact List.Sublist.refl _
  | left _ _ _ sub => exact sub

theorem Slot.Thinned.filling {h : BlockHeader} {m : Vector Bool 8} (filling : y = .filling h m) : x = .filling h m := by
  cases thinned with
  | same => exact filling
  | left => cases filling

theorem Slot.Thinned.empty (empty : x = .empty) : y = .empty := by
  cases thinned with
  | same => exact empty
  | left => cases empty

theorem Slot.Thinned.placed {a b c k : Nat} (placed : x.Placed a b c k) : y.Placed a b c k := by
  cases thinned with
  | same => exact placed
  | left => exact .sent rfl (placed.of_sent rfl)

end

theorem Slot.Thinned.without (x : Slot) (d : DeskId) : x.Thinned (x.without d) := by
  cases x with
  | sent => exact .left _ _ _ List.filter_sublist
  | _ => exact .same _

theorem Slot.Thinned.acknowledged (x : Slot) (d : DeskId) (p : Nat) (naks : List Nat) : x.Thinned (x.acknowledged d p naks) := by
  cases x with
  | sent =>
    simp only [Slot.acknowledged]
    split
    · exact .left _ _ _ List.filter_sublist
    · exact .same _
  | _ => exact .same _

theorem Slot.not_mem_without (x : Slot) (d : DeskId) : d ∉ (x.without d).waiting := by
  cases x with
  | sent => exact fun mem => (mem_filter_ne.1 mem).2 rfl
  | _ => nofun

/-! ## A ring that stands, but for desks that left pending sets -/

structure State.RingKept (s t : State) : Prop where
  info : t.run.info? = s.run.info?
  progress : t.run.inProgress = s.run.inProgress
  slots : ∀ i : SlotId, (s.slots[i]).Thinned t.slots[i]
  tail : t.tail = s.tail
  current : t.current = s.current
  fill : t.fill = s.fill
  repairs : t.repairQueue = s.repairQueue
  position : t.position = s.position
  exhausted : t.exhausted = s.exhausted
  pass : t.currentPass = s.currentPass

/-- R82: the fragments of a slot. -/
theorem State.slotFragments_eq (s : State) (i : SlotId) : s.slotFragments i =
    if (s.slots[i]).isSent then fragmentCount (((s.slots[i]).header?.map BlockHeader.length).getD 0) else 0 := by
  unfold State.slotFragments
  cases s.slots[i] <;> rfl

theorem State.slotFragments_congr {s t : State} {i : SlotId} (sent : (t.slots[i]).isSent = (s.slots[i]).isSent)
    (header : (t.slots[i]).header? = (s.slots[i]).header?) : t.slotFragments i = s.slotFragments i := by
  rw [State.slotFragments_eq, State.slotFragments_eq, sent, header]

/-- A ring that stands, with the transmission at the same block, not further on, and cut as it has to be. -/
theorem State.RingGood.kept {s t : State} (good : s.RingGood) (kept : s.RingKept t)
    (joined : ∀ (i : SlotId) (d : DeskId), d ∈ (t.slots[i]).waiting → s.isJoined d = true → t.isJoined d = true)
    (sending : ∀ x, t.transmission = some x → ∃ y, s.transmission = some y ∧ x.slot = y.slot ∧ x.next ≤ y.next)
    (cut : ∀ x, t.transmission = some x → x.cut = !(t.run.active && t.roomLink) ∧ (x.cut = true → x.next = 0)) : t.RingGood where
  quiet stopped := by
    rw [kept.progress] at stopped
    obtain ⟨slots, repairs, transmission⟩ := good.quiet stopped
    refine ⟨Vector.ext fun i low => ?_, kept.repairs.trans repairs, Option.eq_none_iff_forall_ne_some.2 fun x present => ?_⟩
    · have empty : s.slots[(⟨i, low⟩ : SlotId)] = .empty := by rw [slots]; exact vector_replicate_get ..
      rw [Vector.getElem_replicate]
      exact (kept.slots ⟨i, low⟩).empty empty
    · obtain ⟨y, present', -⟩ := sending x present
      cases transmission.symm.trans present'
  arranged running := by
    rw [kept.progress] at running
    obtain ⟨a, b, c, order⟩ := s.arranged_iff.1 (good.arranged running)
    exact t.arranged_iff.2 ⟨a, b, c, order.of_alike kept.tail kept.current kept.fill fun i k => (kept.slots i).placed⟩
  headers i h held := by
    rw [(kept.slots i).header] at held
    rw [kept.pass, kept.info]
    exact good.headers i h held
  partly i h m filling := good.partly i h m ((kept.slots i).filling filling)
  repairsOnce := by rw [kept.repairs]; exact good.repairsOnce
  repairsSent i mem := by
    rw [kept.repairs] at mem
    rw [(kept.slots i).isSent]
    exact good.repairsSent i mem
  sending x present := by
    obtain ⟨y, present', slot, next⟩ := sending x present
    rw [slot, State.slotFragments_congr (kept.slots _).isSent (kept.slots _).header]
    exact next.trans_lt (good.sending y present')
  cut := cut
  pendingJoined i d mem := joined i d mem (good.pendingJoined i d ((kept.slots i).waiting.mem mem))
  pendingOnce i := (good.pendingOnce i).sublist (kept.slots i).waiting
  positions i p sent := by
    rw [(kept.slots i).position] at sent
    rw [kept.position, kept.exhausted]
    exact good.positions i p sent
  distinct i j p sent sent' := by
    rw [(kept.slots i).position] at sent
    rw [(kept.slots j).position] at sent'
    exact good.distinct i j p sent sent'
  limit := by rw [kept.position]; exact good.limit
  exhausted := by rw [kept.position, kept.exhausted]; exact good.exhausted

/-- The same, with the run, the Room link and the transmission as they were. -/
theorem State.RingGood.kept_run {s t : State} (good : s.RingGood) (run : t.run = s.run) (slots : ∀ i : SlotId, (s.slots[i]).Thinned t.slots[i])
    (tail : t.tail = s.tail) (current : t.current = s.current) (fill : t.fill = s.fill) (repairs : t.repairQueue = s.repairQueue)
    (position : t.position = s.position) (exhausted : t.exhausted = s.exhausted) (pass : t.currentPass = s.currentPass)
    (transmission : t.transmission = s.transmission) (link : t.roomLink = s.roomLink)
    (joined : ∀ (i : SlotId) (d : DeskId), d ∈ (t.slots[i]).waiting → s.isJoined d = true → t.isJoined d = true) : t.RingGood := by
  refine good.kept ⟨by rw [run], by rw [run], slots, tail, current, fill, repairs, position, exhausted, pass⟩ joined
    (fun x present => ⟨x, transmission ▸ present, rfl, Nat.le_refl _⟩) fun x present => ?_
  rw [run, link]
  exact good.cut x (transmission ▸ present)

/-- A change that leaves the whole ring alone, and every JOINED desk JOINED. -/
theorem State.RingGood.of_same {s t : State} (good : s.RingGood) (run : t.run = s.run) (slots : t.slots = s.slots) (tail : t.tail = s.tail)
    (current : t.current = s.current) (fill : t.fill = s.fill) (repairs : t.repairQueue = s.repairQueue)
    (position : t.position = s.position) (exhausted : t.exhausted = s.exhausted) (pass : t.currentPass = s.currentPass)
    (transmission : t.transmission = s.transmission) (link : t.roomLink = s.roomLink)
    (joined : ∀ d : DeskId, s.isJoined d = true → t.isJoined d = true) : t.RingGood :=
  good.kept_run run (fun i => by rw [slots]; exact .same _) tail current fill repairs position exhausted pass transmission link
    fun _ d _ => joined d

/-- R68: a desk leaves every pending set, and whatever becomes of it, the others stay as they were. -/
theorem State.RingGood.without {s t : State} (good : s.RingGood) (d : DeskId) (run : t.run = s.run)
    (slots : ∀ i : SlotId, t.slots[i] = (s.slots[i]).without d) (tail : t.tail = s.tail)
    (current : t.current = s.current) (fill : t.fill = s.fill) (repairs : t.repairQueue = s.repairQueue)
    (position : t.position = s.position) (exhausted : t.exhausted = s.exhausted) (pass : t.currentPass = s.currentPass)
    (transmission : t.transmission = s.transmission) (link : t.roomLink = s.roomLink)
    (others : ∀ e : DeskId, e ≠ d → t.desks[e].night = s.desks[e].night) : t.RingGood := by
  refine good.kept_run run (fun i => by rw [slots]; exact .without _ d) tail current fill repairs position exhausted pass transmission link
    fun i e mem joined => ?_
  rw [State.isJoined, others e ?_]
  · exact joined
  · rintro rfl
    rw [slots] at mem
    exact Slot.not_mem_without _ e mem

/-! ## Slots that change -/

theorem State.RingGood.progress_of_held {s : State} (good : s.RingGood) {i : SlotId} (held : s.slots[i] ≠ .empty) :
    s.run.inProgress = true := by
  by_contra stopped
  obtain ⟨slots, -⟩ := good.quiet (Bool.eq_false_iff.2 stopped)
  exact held (by rw [slots]; exact vector_replicate_get ..)

theorem State.inTransmission_of_slot {s : State} {x : Transmission} (present : s.transmission = some x) :
    s.inTransmission x.slot = true := by
  unfold State.inTransmission
  rw [present]
  exact beq_self_eq_true _

/-- Slots change to ones that fit, but for SENT slots queued for repair or in transmission. -/
theorem State.RingGood.changed {s t : State} (good : s.RingGood) (running : s.run.inProgress = true) (run : t.run = s.run)
    (arranged : t.Arranged)
    (slots : ∀ i : SlotId, t.slots[i] = s.slots[i] ∨
      ((t.slots[i]).Fits t ∧ ((s.slots[i]).isSent = true → i ∉ s.repairQueue ∧ s.inTransmission i = false)))
    (repairs : t.repairQueue = s.repairQueue) (transmission : t.transmission = s.transmission) (link : t.roomLink = s.roomLink)
    (pass : s.currentPass ≤ t.currentPass) (desks : t.desks = s.desks) (taken : ∀ p, s.Taken p → t.Taken p)
    (distinct : ∀ (i j : SlotId) (p : Nat), (t.slots[i]).position? = some p → (t.slots[j]).position? = some p → i = j)
    (limit : t.position ≤ 4294967295) (exhausted : t.exhausted = true → t.position = 4294967295) : t.RingGood := by
  have joined (d : DeskId) : t.isJoined d = s.isJoined d := by rw [State.isJoined, desks]; rfl
  have fits (i : SlotId) : (t.slots[i]).Fits t := by
    rcases slots i with same | ⟨fits, -⟩
    · obtain ⟨header, partly, pending, once, position⟩ := good.fits i
      rw [same]
      refine ⟨fun h held => ?_, partly, fun d mem => (joined d).trans (pending d mem), once, fun p sent => taken p (position p sent)⟩
      obtain ⟨low, high, passed, inside⟩ := header h held
      exact ⟨low, high, passed.trans pass, by rw [run]; exact inside⟩
    · exact fits
  exact
    { quiet := fun stopped => by rw [run, running] at stopped; cases stopped
      arranged := fun _ => arranged
      headers := fun i => (fits i).header
      partly := fun i => (fits i).partly
      repairsOnce := by rw [repairs]; exact good.repairsOnce
      repairsSent := fun i mem => by
        rw [repairs] at mem
        have sent := good.repairsSent i mem
        rcases slots i with same | ⟨-, untouched⟩
        · rw [same]; exact sent
        · exact absurd mem (untouched sent).1
      sending := fun x present => by
        rw [transmission] at present
        have left := good.sending x present
        rcases slots x.slot with same | ⟨-, untouched⟩
        · rw [State.slotFragments_congr (s := s) (by rw [same]) (by rw [same])]; exact left
        · rw [State.slotFragments_eq] at left
          split at left
          · next sent =>
            have idle := (untouched sent).2
            rw [State.inTransmission_of_slot present] at idle
            cases idle
          · exact absurd left (Nat.not_lt_zero _)
      cut := fun x present => by
        rw [run, link]
        exact good.cut x (transmission ▸ present)
      pendingJoined := fun i => (fits i).joined
      pendingOnce := fun i => (fits i).once
      positions := fun i => (fits i).position
      distinct := distinct
      limit := limit
      exhausted := exhausted }

/-- One slot changed to one without a stream position. -/
theorem State.RingGood.set {s t : State} (good : s.RingGood) (running : s.run.inProgress = true) {j : SlotId} {x : Slot}
    (slots : t.slots = s.slots.set j x) (arranged : t.Arranged) (fits : x.Fits t) (noPosition : x.position? = none)
    (untouched : (s.slots[j]).isSent = true → j ∉ s.repairQueue ∧ s.inTransmission j = false) (run : t.run = s.run)
    (repairs : t.repairQueue = s.repairQueue) (transmission : t.transmission = s.transmission) (link : t.roomLink = s.roomLink)
    (pass : s.currentPass ≤ t.currentPass) (desks : t.desks = s.desks) (position : t.position = s.position)
    (exhausted : t.exhausted = s.exhausted) : t.RingGood := by
  have slot (i : SlotId) : t.slots[i] = if j = i then x else s.slots[i] := by rw [slots, vector_set_get]
  have position_eq {i : SlotId} {p : Nat} (sent : (t.slots[i]).position? = some p) : (s.slots[i]).position? = some p := by
    rw [slot] at sent
    split at sent
    · cases noPosition.symm.trans sent
    · exact sent
  refine good.changed running run arranged (fun i => ?_) repairs transmission link pass desks
    (fun p taken => by rw [State.Taken, position, exhausted]; exact taken)
    (fun i i' p sent sent' => good.distinct i i' p (position_eq sent) (position_eq sent')) (by rw [position]; exact good.limit)
    (by rw [position, exhausted]; exact good.exhausted)
  rw [slot]
  split
  · next same => exact .inr ⟨fits, same ▸ untouched⟩
  · exact .inl rfl

end Sys2Proof.Machine
end

section
/-! SUPPORT. The moves that change the ring (O59), and every step over the two agreements (O58, O59). -/

namespace Sys2Proof.Machine

/-! ## Blocks -/

theorem Slot.not_sent_of_filling {x : Slot} {h : BlockHeader} {m : Vector Bool 8} (filling : x = .filling h m) : x.isSent ≠ true := by
  rw [filling]; nofun

/-- R64: a block without fragments is not complete. -/
theorem mapComplete_none {length : Nat} (some_byte : 1 ≤ length) : mapComplete (Vector.replicate 8 false) (fragmentCount length) = false := by
  refine Bool.eq_false_iff.2 fun complete => ?_
  have first := List.all_eq_true.1 complete 0 (List.mem_finRange 0)
  rw [vector_replicate_get, Bool.or_false, decide_eq_true_eq] at first
  have count : 1 ≤ fragmentCount length := (Nat.one_le_div_iff (by decide)).2 (by omega)
  exact absurd (count.trans first) (by decide)

/-- R62, R67: a slot opened. -/
theorem State.RingGood.openSlot {s : State} (good : s.RingGood) {paused : Bool} {info : RunInfo} {deadline : Nat} {h : BlockHeader}
    (run : s.run = .running paused info deadline) (room : ∃ i : SlotId, s.slots[i] = .empty)
    (unfilled : ∀ i : SlotId, (s.slots[i]).isFilling = false) (length : 1 ≤ h.length ∧ h.length ≤ 8192)
    (pass : s.currentPass ≤ h.pass) (sequence : h.sequence < info.params.blockCount) :
    State.RingGood { s with slots := s.slots.set s.fill (.filling h (Vector.replicate 8 false)), currentPass := h.pass } := by
  have running : s.run.inProgress = true := by rw [run]; rfl
  obtain ⟨a, b, c, order⟩ := s.arranged_iff.1 (good.arranged running)
  obtain ⟨none, space⟩ := order.of_room room unfilled
  have placed := order.placed (a + b) space s.fill order.fill_eq
  refine good.set running rfl ((State.arranged_iff _).2 ⟨a, b, 1, order.openSlot none space rfl rfl rfl rfl⟩) ?_ rfl (fun sent => ?_)
    rfl rfl rfl rfl pass rfl rfl rfl
  · refine ⟨fun h' held => ?_, fun h' m filling => ?_, nofun, List.nodup_nil, nofun⟩
    · cases held
      exact ⟨length.1, length.2, Nat.le_refl _, fun info' present => by rw [run] at present; cases present; exact sequence⟩
    · cases filling
      exact mapComplete_none length.1
  · have before := placed.of_sent sent
    omega

section
variable {s : State} (good : s.RingGood) {h : BlockHeader} {m : Vector Bool 8} (filling : s.slots[s.fill] = .filling h m)
include good filling

/-- R59: the order of a ring whose slot at fill is FILLING. -/
theorem State.RingGood.order_of_filling : s.run.inProgress = true ∧ ∃ a b, s.ArrangedBy a b 1 := by
  have running := good.progress_of_held (i := s.fill) (by rw [filling]; nofun)
  obtain ⟨a, b, c, order⟩ := s.arranged_iff.1 (good.arranged running)
  obtain rfl : c = 1 := order.of_filling (by rw [filling]; rfl)
  exact ⟨running, a, b, order⟩

/-- R64: a fragment joins the map, and another is lacking. -/
theorem State.RingGood.mark {m' : Vector Bool 8} (lacks : mapComplete m' (fragmentCount h.length) = false) :
    State.RingGood { s with slots := s.slots.set s.fill (.filling h m') } := by
  obtain ⟨running, a, b, order⟩ := good.order_of_filling filling
  refine good.set running rfl ((State.arranged_iff _).2 ⟨a, b, 1, order.mark rfl rfl rfl rfl rfl⟩) ?_ rfl
    (fun sent => absurd sent (Slot.not_sent_of_filling filling)) rfl rfl rfl rfl (Nat.le_refl _) rfl rfl rfl
  refine ⟨fun h' held => good.headers s.fill h' (by rw [filling]; exact held), fun h' m'' filling' => ?_, nofun, List.nodup_nil, nofun⟩
  cases filling'
  exact lacks

/-- R65: the block is READY. -/
theorem State.RingGood.blockReady : State.RingGood { s with slots := s.slots.set s.fill (.ready h), fill := s.fill + 1 } := by
  obtain ⟨running, a, b, order⟩ := good.order_of_filling filling
  refine good.set running rfl ((State.arranged_iff _).2 ⟨a, b + 1, 0, order.blockReady rfl rfl rfl rfl rfl⟩) ?_ rfl
    (fun sent => absurd sent (Slot.not_sent_of_filling filling)) rfl rfl rfl rfl (Nat.le_refl _) rfl rfl rfl
  exact ⟨fun h' held => good.headers s.fill h' (by rw [filling]; exact held), nofun, nofun, List.nodup_nil, nofun⟩

/-- R65: the block is given up. -/
theorem State.RingGood.blockFailed : State.RingGood { s with slots := s.slots.set s.fill .empty } := by
  obtain ⟨running, a, b, order⟩ := good.order_of_filling filling
  exact good.set running rfl ((State.arranged_iff _).2 ⟨a, b, 0, order.blockFailed rfl rfl rfl rfl rfl⟩) (.empty _) rfl
    (fun sent => absurd sent (Slot.not_sent_of_filling filling)) rfl rfl rfl rfl (Nat.le_refl _) rfl rfl rfl

end

/-- R70: the tail retired. -/
theorem State.RingGood.dropTail {s : State} (good : s.RingGood) (sent : (s.slots[s.tail]).isSent = true) (unqueued : s.tail ∉ s.repairQueue)
    (idle : s.inTransmission s.tail = false) : s.dropTail.RingGood := by
  have running := good.progress_of_held (i := s.tail) fun empty => by rw [empty] at sent; cases sent
  obtain ⟨a, b, c, order⟩ := s.arranged_iff.1 (good.arranged running)
  exact good.set running rfl ((State.arranged_iff _).2 ⟨a - 1, b, c, order.dropTail (order.of_sent sent)⟩) (.empty _) rfl
    (fun _ => ⟨unqueued, idle⟩) rfl rfl rfl rfl (Nat.le_refl _) rfl rfl rfl

/-- R66: a block still FILLING discarded. -/
theorem State.RingGood.discard {s t : State} (good : s.RingGood) (run : t.run = s.run)
    (slots : ∀ i : SlotId, t.slots[i] = if (s.slots[i]).isFilling then .empty else s.slots[i]) (tail : t.tail = s.tail)
    (current : t.current = s.current) (fill : t.fill = s.fill) (repairs : t.repairQueue = s.repairQueue)
    (position : t.position = s.position) (exhausted : t.exhausted = s.exhausted) (pass : t.currentPass = s.currentPass)
    (transmission : t.transmission = s.transmission) (link : t.roomLink = s.roomLink) (desks : t.desks = s.desks) : t.RingGood := by
  cases running : s.run.inProgress with
  | true =>
    obtain ⟨a, b, c, order⟩ := s.arranged_iff.1 (good.arranged running)
    have position_eq {i : SlotId} {p : Nat} (sent : (t.slots[i]).position? = some p) : (s.slots[i]).position? = some p := by
      rw [slots] at sent
      split at sent
      · cases sent
      · exact sent
    refine good.changed running run (t.arranged_iff.2 ⟨a, b, 0, order.discard tail current fill slots⟩) (fun i => ?_) repairs transmission link
      (Nat.le_of_eq pass.symm) desks (fun p taken => by rw [State.Taken, position, exhausted]; exact taken)
      (fun i j p sent sent' => good.distinct i j p (position_eq sent) (position_eq sent')) (by rw [position]; exact good.limit)
      (by rw [position, exhausted]; exact good.exhausted)
    rw [slots]
    cases slot : s.slots[i] with
    | filling => exact .inr ⟨.empty _, nofun⟩
    | _ => exact .inl rfl
  | false =>
    have empty (i : SlotId) : s.slots[i] = .empty := by rw [(good.quiet running).1]; exact vector_replicate_get ..
    refine good.kept_run run (fun i => ?_) tail current fill repairs position exhausted pass transmission link fun i d _ joined => ?_
    · rw [slots, empty]; exact .same _
    · rw [State.isJoined, desks]; exact joined

/-! ## The stream -/

theorem State.mem_joinedDesks {s : State} {d : DeskId} : d ∈ s.joinedDesks ↔ s.isJoined d = true := by
  rw [State.joinedDesks, List.mem_filter]
  exact and_iff_right (List.mem_finRange d)

/-- R80, R81: what a first transmission leaves of the counter, while it is not exhausted. -/
theorem State.sendCurrent_position {s : State} (fresh : s.exhausted = false) (limit : s.position ≤ 4294967295) (h : BlockHeader) :
    ((s.sendCurrent h).position = s.position + 1 ∧ (s.sendCurrent h).exhausted = false ∧ s.position < 4294967295) ∨
    ((s.sendCurrent h).position = s.position ∧ (s.sendCurrent h).exhausted = true ∧ s.position = 4294967295) := by
  unfold State.sendCurrent State.takePosition
  split
  · next below => exact .inl ⟨rfl, fresh, below⟩
  · next last => exact .inr ⟨rfl, rfl, Nat.le_antisymm limit (Nat.not_lt.1 last)⟩

theorem State.sendCurrent_ring (s : State) (h : BlockHeader) :
    (s.sendCurrent h).slots = s.slots.set s.current (.sent h s.position s.now s.joinedDesks) ∧
      (s.sendCurrent h).current = s.current + 1 := by
  unfold State.sendCurrent State.takePosition
  split <;> exact ⟨rfl, rfl⟩

/-- R84: a first transmission. -/
theorem State.RingGood.send {s : State} (good : s.RingGood) {h : BlockHeader} (ready : s.slots[s.current] = .ready h)
    (fresh : s.exhausted = false) : (s.sendCurrent h).RingGood := by
  have running := good.progress_of_held (i := s.current) (by rw [ready]; nofun)
  obtain ⟨a, b, c, order⟩ := s.arranged_iff.1 (good.arranged running)
  obtain ⟨slots, current⟩ := s.sendCurrent_ring h
  have counter := State.sendCurrent_position fresh good.limit h
  have shape := s.sendCurrent_shape h
  generalize s.sendCurrent h = t at slots current counter shape ⊢
  have slot (i : SlotId) : t.slots[i] = if s.current = i then .sent h s.position s.now s.joinedDesks else s.slots[i] := by
    rw [slots, vector_set_get]
  have sent_before {i : SlotId} {p : Nat} (sent : (s.slots[i]).position? = some p) : p ≠ s.position := by
    rcases good.positions i p sent with below | ⟨used, -⟩
    · exact Nat.ne_of_lt below
    · cases fresh.symm.trans used
  have taken (p : Nat) (before : s.Taken p) : t.Taken p := by
    rcases before with below | ⟨used, -⟩
    · refine .inl ?_
      omega
    · cases fresh.symm.trans used
  have order' : t.ArrangedBy (a + 1) (b - 1) c :=
    order.send (order.of_ready (by rw [ready]; rfl)) rfl (by rw [shape]) current (by rw [shape]) slots
  have run : t.run = s.run := by rw [shape]
  have desks : t.desks = s.desks := by rw [shape]
  refine good.changed running run (t.arranged_iff.2 ⟨_, _, _, order'⟩) (fun i => ?_) (by rw [shape]) (by rw [shape]) (by rw [shape])
    (by rw [shape]) desks taken (fun i j p sent sent' => ?_) ?_ ?_
  · rw [slot]
    split
    · next same =>
      refine .inr ⟨⟨fun h' held => ?_, nofun, fun d mem => ?_, (List.nodup_finRange 128).filter _, fun p position => ?_⟩, fun sent => ?_⟩
      · rw [run, show t.currentPass = s.currentPass by rw [shape]]
        exact good.headers s.current h' (by rw [ready]; exact held)
      · rw [State.isJoined, desks]
        exact State.mem_joinedDesks.1 mem
      · cases position
        rcases counter with ⟨next, -⟩ | ⟨same, used, -⟩
        · exact .inl (by omega)
        · exact .inr ⟨used, same.symm⟩
      · subst same
        rw [ready] at sent
        cases sent
    · exact .inl rfl
  · rw [slot] at sent sent'
    split at sent <;> split at sent'
    · next here here' => exact here.symm.trans here'
    · cases sent
      exact absurd rfl (sent_before sent')
    · cases sent'
      exact absurd rfl (sent_before sent)
    · exact good.distinct i j p sent sent'
  · have limit := good.limit
    omega
  · intro used
    rcases counter with ⟨-, unused, -⟩ | ⟨same, -, last⟩
    · cases unused.symm.trans used
    · exact same.trans last

end Sys2Proof.Machine
end

section
/-! SUPPORT. The Repair Queue, the transmission and the run in the ring's agreement, and O58 and O59. -/

namespace Sys2Proof.Machine

/-! ## The Repair Queue and the transmission -/

/-- R105: a repair requested. -/
theorem State.RingGood.requestRepair {s : State} (good : s.RingGood) {i : SlotId} (sent : (s.slots[i]).isSent = true)
    (absent : i ∉ s.repairQueue) : State.RingGood { s with repairQueue := s.repairQueue ++ [i] } := by
  have running := good.progress_of_held (i := i) fun empty => by rw [empty] at sent; cases sent
  refine { good with quiet := fun stopped => ?_, repairsOnce := ?_, repairsSent := fun j mem => ?_ }
  · rw [show s.run.inProgress = false from stopped] at running
    cases running
  · exact good.repairsOnce.append (List.nodup_singleton i) (List.disjoint_singleton.2 absent)
  · rcases List.mem_append.1 mem with old | new
    · exact good.repairsSent j old
    · rw [List.mem_singleton.1 new]; exact sent

/-- R89, R90: entries leave the Repair Queue. -/
theorem State.RingGood.repairsLeft {s : State} (good : s.RingGood) {q : List SlotId} (left : q.Sublist s.repairQueue) :
    State.RingGood { s with repairQueue := q } := by
  refine { good with quiet := fun stopped => ?_, repairsOnce := good.repairsOnce.sublist left,
                     repairsSent := fun j mem => good.repairsSent j (left.mem mem) }
  obtain ⟨slots, repairs, transmission⟩ := good.quiet stopped
  refine ⟨slots, ?_, transmission⟩
  rw [repairs] at left
  exact List.sublist_nil.1 left

theorem Run.inProgress_of_active {run : Run} (active : run.active = true) : run.inProgress = true := by
  obtain ⟨info, deadline, rfl⟩ := run.active_iff.1 active
  rfl

/-- R82: a transmission set, in ACTIVE with the Room link up. -/
theorem State.RingGood.transmit {s : State} (good : s.RingGood) (active : s.run.active = true) (link : s.roomLink = true)
    {x : Transmission} (uncut : x.cut = false) (left : x.next < s.slotFragments x.slot) :
    State.RingGood { s with transmission := some x } := by
  refine { good with quiet := fun stopped => ?_, sending := fun y present => ?_, cut := fun y present => ?_ }
  · cases (Run.inProgress_of_active active).symm.trans stopped
  · cases present
    exact left
  · cases present
    rw [uncut]
    exact ⟨by rw [show State.run _ = s.run from rfl, active, show State.roomLink _ = s.roomLink from rfl, link]; rfl, nofun⟩

/-- R84, R86: a transmission over. -/
theorem State.RingGood.endTransmission {s : State} (good : s.RingGood) : State.RingGood { s with transmission := none } :=
  { good with
    quiet := fun stopped => ⟨(good.quiet stopped).1, (good.quiet stopped).2.1, rfl⟩
    sending := nofun
    cut := nofun }

/-- R82: a SENT slot has a fragment. -/
theorem State.RingGood.slotFragments_pos {s : State} (good : s.RingGood) {i : SlotId} (sent : (s.slots[i]).isSent = true) :
    0 < s.slotFragments i := by
  cases slot : s.slots[i] with
  | sent h position firstSend waiting =>
    have length := (good.headers i h (by rw [slot]; rfl)).1
    rw [State.slotFragments_eq, slot]
    exact (Nat.one_le_div_iff (by decide)).2 (Nat.add_le_add_right length 1023)
  | _ => rw [slot] at sent; cases sent

/-- R87: a repair begins with the head of the Repair Queue. -/
theorem State.RingGood.startRepair {s : State} (good : s.RingGood) {i : SlotId} {rest : List SlotId} (active : s.run.active = true)
    (link : s.roomLink = true) (queue : s.repairQueue = i :: rest) (count : Nat) :
    State.RingGood { s with
      repairQueue := rest, transmission := some { slot := i, kind := .repair, next := 0, cut := false }, repairCount := count } := by
  have left : rest.Sublist s.repairQueue := by rw [queue]; exact List.sublist_cons_self i rest
  have sent : (s.slots[i]).isSent = true := good.repairsSent i (by rw [queue]; exact List.mem_cons_self ..)
  have repaired : State.RingGood { s with repairQueue := rest } := good.repairsLeft left
  have pos : 0 < s.slotFragments i := good.slotFragments_pos sent
  exact { repaired.transmit active link (x := { slot := i, kind := .repair, next := 0, cut := false }) rfl pos with }

theorem cutTransmission_some {x : Option Transmission} {t : Transmission} (present : cutTransmission x = some t) :
    t.cut = true ∧ ∃ y, x = some y ∧ t.slot = y.slot ∧ t.next ≤ y.next ∧ (t.next = 0 ∨ (y.cut = true ∧ t.next = y.next)) := by
  unfold cutTransmission at present
  split at present
  · split at present
    · next already => cases present; exact ⟨already, _, rfl, rfl, Nat.le_refl _, .inr ⟨already, rfl⟩⟩
    · cases present; exact ⟨rfl, _, rfl, rfl, Nat.zero_le _, .inl rfl⟩
  · cases present

theorem uncutTransmission_some {x : Option Transmission} {t : Transmission} (present : uncutTransmission x = some t) :
    ∃ y, x = some y ∧ t = { y with cut := false } := by
  unfold uncutTransmission at present
  split at present
  · cases present; exact ⟨_, rfl, rfl⟩
  · cases present

/-- What a change that holds, cuts or frees a transmission leaves of the ring. -/
structure State.RingHeld (s t : State) : Prop extends s.RingKept t where
  joined : ∀ d : DeskId, s.isJoined d = true → t.isJoined d = true

/-- R92 to R94: the transmission is cut, as the engine may not offer it. -/
theorem State.RingGood.cutNow {s t : State} (good : s.RingGood) (held : s.RingHeld t) (transmission : t.transmission = cutTransmission s.transmission)
    (stopped : (t.run.active && t.roomLink) = false) : t.RingGood := by
  refine good.kept held.toRingKept (fun _ d _ => held.joined d) (fun x present => ?_) fun x present => ?_
  all_goals
    rw [transmission] at present
    obtain ⟨cut, y, before, slot, next, zero⟩ := cutTransmission_some present
  · exact ⟨y, before, slot, next⟩
  · refine ⟨by rw [cut, stopped]; rfl, fun _ => ?_⟩
    rcases zero with zero | ⟨cut', same⟩
    · exact zero
    · exact same.trans ((good.cut y before).2 cut')

/-- R93, R94: the cut is cleared, as the engine may offer the block again. -/
theorem State.RingGood.uncutNow {s t : State} (good : s.RingGood) (held : s.RingHeld t)
    (transmission : t.transmission = uncutTransmission s.transmission) (going : (t.run.active && t.roomLink) = true) : t.RingGood := by
  refine good.kept held.toRingKept (fun _ d _ => held.joined d) (fun x present => ?_) fun x present => ?_
  all_goals
    rw [transmission] at present
    obtain ⟨y, before, rfl⟩ := uncutTransmission_some present
  · exact ⟨y, before, rfl, Nat.le_refl _⟩
  · exact ⟨by rw [going]; rfl, nofun⟩

/-- R92: a transmission that was cut, and stays so. -/
theorem State.RingGood.cutStill {s t : State} (good : s.RingGood) (held : s.RingHeld t) (transmission : t.transmission = s.transmission)
    (same : (t.run.active && t.roomLink) = (s.run.active && s.roomLink)) : t.RingGood := by
  refine good.kept held.toRingKept (fun _ d _ => held.joined d) (fun x present => ?_) fun x present => ?_
  all_goals rw [transmission] at present
  · exact ⟨x, present, rfl, Nat.le_refl _⟩
  · rw [same]; exact good.cut x present

theorem State.RingGood.roomDown {s : State} (good : s.RingGood) : State.RingGood { s with
    roomLink := false, transmission := if s.run.active then cutTransmission s.transmission else s.transmission } := by
  have held : s.RingHeld { s with
      roomLink := false, transmission := if s.run.active then cutTransmission s.transmission else s.transmission } :=
    ⟨⟨rfl, rfl, fun _ => .same _, rfl, rfl, rfl, rfl, rfl, rfl, rfl⟩, fun _ => id⟩
  by_cases active : s.run.active = true
  · exact good.cutNow held (if_pos active) (Bool.and_false _)
  · exact good.cutStill held (if_neg active) (by dsimp only; rw [Bool.eq_false_iff.2 active]; rfl)

theorem State.RingGood.roomUp {s : State} (good : s.RingGood) : State.RingGood { s with
    roomLink := true, transmission := if s.run.active then uncutTransmission s.transmission else s.transmission } := by
  have held : s.RingHeld { s with
      roomLink := true, transmission := if s.run.active then uncutTransmission s.transmission else s.transmission } :=
    ⟨⟨rfl, rfl, fun _ => .same _, rfl, rfl, rfl, rfl, rfl, rfl, rfl⟩, fun _ => id⟩
  by_cases active : s.run.active = true
  · exact good.uncutNow held (if_pos active) (by dsimp only; rw [active]; rfl)
  · exact good.cutStill held (if_neg active) (by dsimp only; rw [Bool.eq_false_iff.2 active]; rfl)

theorem State.RingGood.pauseRun {s : State} (good : s.RingGood) {info : RunInfo} {deadline : Nat}
    (run : s.run = .running false info deadline) : (s.pauseRun info deadline).RingGood := by
  rw [State.pauseRun_eq]
  refine good.cutNow ⟨⟨by rw [run]; rfl, by rw [run]; rfl, fun _ => .same _, rfl, rfl, rfl, rfl, rfl, rfl, rfl⟩, fun d joined => ?_⟩ rfl rfl
  simp only [State.isJoined, vector_ofFn_get]
  exact joined

theorem State.RingGood.resumeRun {s : State} (good : s.RingGood) {info : RunInfo} {deadline : Nat}
    (run : s.run = .running true info deadline) : (s.resumeRun info deadline).RingGood := by
  rw [State.resumeRun_eq]
  have held {x : Option Transmission} : s.RingHeld { s with
      run := .running false info deadline
      desks := Vector.ofFn fun d => { s.desks[d] with night := { s.desks[d].night with
        timer := s.desks[d].night.timer.map (DeskTimer.release s.now) } }
      transmission := x } := by
    refine ⟨⟨by rw [run]; rfl, by rw [run]; rfl, fun _ => .same _, rfl, rfl, rfl, rfl, rfl, rfl, rfl⟩, fun d joined => ?_⟩
    simp only [State.isJoined, vector_ofFn_get]
    exact joined
  by_cases link : s.roomLink = true
  · exact good.uncutNow held (if_pos link) (by dsimp only; rw [link]; rfl)
  · exact good.cutStill held (if_neg link) (by dsimp only; rw [Bool.eq_false_iff.2 link, Bool.and_false, Bool.and_false])

/-! ## The run -/

theorem State.RingGood.beginRun {s : State} (good : s.RingGood) (run : s.run = .standby) (owner : MacAddr) (p : RunParams) :
    (s.beginRun owner p).RingGood := by
  obtain ⟨slots, repairs, transmission⟩ := good.quiet (by rw [run]; rfl)
  rw [State.beginRun_eq]
  exact .of_empty (fun _ => (State.arranged_iff _).2 ⟨0, 0, 0, .of_empty slots rfl rfl⟩) slots repairs transmission (Nat.zero_le _) nofun

theorem State.RingGood.closeRun {s : State} (good : s.RingGood) (info : RunInfo) (deadline : Nat) (cause : CloseCause) :
    (s.closed info deadline cause).RingGood := by
  rw [State.closed]
  exact .of_empty nofun rfl rfl rfl good.limit good.exhausted

theorem State.RingGood.releaseReport {s : State} (good : s.RingGood) {info : RunInfo} {cause : CloseCause} {left : Nat}
    (run : s.run = .closed info cause left) : s.releaseReport.RingGood := by
  obtain ⟨slots, repairs, transmission⟩ := good.quiet (by rw [run]; rfl)
  rw [State.releaseReport_eq]
  exact .of_empty nofun slots repairs transmission good.limit good.exhausted

theorem engineCleared_ringGood (s : State) : s.engineCleared.RingGood := by
  rw [State.engineCleared]
  exact .of_empty nofun rfl rfl rfl (Nat.zero_le _) nofun

/-- R79: a flush. -/
theorem State.RingGood.flush {s : State} (good : s.RingGood) : State.RingGood { s with
    slots := Vector.replicate 64 .empty, repairQueue := [], transmission := none, tail := s.fill, current := s.fill } :=
  .of_empty (fun _ => (State.arranged_iff _).2 ⟨0, 0, 0, .of_empty rfl rfl rfl⟩) rfl rfl rfl good.limit good.exhausted

/-! ## Desks -/

theorem State.modifyNight_joined {s : State} {d : DeskId} {f : Night → Night}
    (joined : s.desks[d].night.state = .joined → (f s.desks[d].night).state = .joined) (e : DeskId) (before : s.isJoined e = true) :
    (s.modifyNight d f).isJoined e = true := by
  rw [State.isJoined, beq_iff_eq] at before ⊢
  by_cases same : e = d
  · subst same
    rw [State.modifyNight_here]
    exact joined before
  · rw [State.modifyNight_elsewhere s f same]
    exact before

/-- R36: a desk that is JOINED is not one that presence moves. -/
theorem State.deskHeard_joined (s : State) (d e : DeskId) (before : s.isJoined e = true) : (s.deskHeard d).isJoined e = true := by
  unfold State.deskHeard
  split
  · split
    · next awaits =>
      rw [State.unqueue_eq]
      refine State.modifyNight_joined (fun joined => ?_) e before
      rcases (Night.awaitsPresence_iff _).1 awaits with waking | ⟨queued, -⟩
      · cases waking.symm.trans joined
      · cases queued.symm.trans joined
    · exact before
  · exact before

theorem State.queueDesks_joined {s : State} {ds : List DeskId} (rest : ∀ d ∈ ds, s.desks[d].night.state ≠ .joined) (d : DeskId)
    (before : s.isJoined d = true) : (s.queueDesks ds).isJoined d = true := by
  have joined : s.desks[d].night.state = .joined := beq_iff_eq.1 before
  have absent : ds.contains d ≠ true := fun mem => rest d (List.contains_iff_mem.1 mem) joined
  simp only [State.isJoined, State.queueDesks_eq, vector_ofFn_get, if_neg absent]
  exact before

theorem State.isJoined_of_desks {s t : State} (desks : t.desks = s.desks) {d : DeskId} (before : s.isJoined d = true) :
    t.isJoined d = true := by
  rw [State.isJoined, desks]
  exact before

/-- The ring under a change of one desk's night fields that leaves a JOINED desk JOINED. -/
theorem State.RingGood.modifyNight {s : State} (good : s.RingGood) {d : DeskId} {f : Night → Night}
    (joined : s.desks[d].night.state = .joined → (f s.desks[d].night).state = .joined) : (s.modifyNight d f).RingGood :=
  good.of_same rfl rfl rfl rfl rfl rfl rfl rfl rfl rfl rfl (State.modifyNight_joined joined)

theorem State.Traffic.ringGood {s t : State} (traffic : s.Traffic t) (good : s.RingGood) : t.RingGood := by
  rw [traffic.shape]
  exact good.of_same rfl rfl rfl rfl rfl rfl rfl rfl rfl rfl rfl fun _ => id

theorem State.RingGood.scanFailed {s : State} (good : s.RingGood) (d : DeskId) : (s.scanFailed d).RingGood := by
  have waits : (s.withoutQueued d).RingGood := good.of_same rfl rfl rfl rfl rfl rfl rfl rfl rfl rfl rfl fun _ => id
  rw [State.scanFailed]
  refine waits.without d rfl (fun i => vector_ofFn_get _ i) rfl rfl rfl rfl rfl rfl rfl rfl rfl fun e other => ?_
  dsimp only
  exact (s.withoutQueued d).modifyNight_elsewhere _ other

theorem State.RingGood.scanWoken {s : State} (good : s.RingGood) (info : RunInfo) {d : DeskId}
    (queued : s.desks[d].night.state = .queued) : (s.scanWoken info d).RingGood := by
  have waits : (s.withoutQueued d).RingGood := good.of_same rfl rfl rfl rfl rfl rfl rfl rfl rfl rfl rfl fun _ => id
  exact waits.modifyNight fun joined => nomatch queued.symm.trans joined

theorem State.scan_ringGood {s : State} (desks : s.DesksGood) (good : s.RingGood) : s.scan.1.RingGood := by
  have both : s.scan.1.DesksGood ∧ s.scan.1.RingGood := by
    refine State.scan_keeps (P := fun t => t.DesksGood ∧ t.RingGood) (fun t info deadline d run mem ⟨desks', ring⟩ => ?_)
      (fun t info deadline d run mem ⟨desks', ring⟩ => ?_) (fun t now c weight ⟨desks', ring⟩ => ?_)
      (fun t sent unqueued idle ⟨desks', ring⟩ => ?_) (fun t u traffic ⟨desks', ring⟩ => ?_) ⟨desks, good⟩
    · exact ⟨desks'.scanFailed run ((desks'.exact d).1 (mem desks.once)), ring.scanFailed d⟩
    · have queued := (desks'.exact d).1 (mem desks.once)
      exact ⟨desks'.scanWoken run queued, ring.scanWoken info queued⟩
    · exact ⟨desks'.of_same rfl (fun _ => rfl) rfl, ring.of_same rfl rfl rfl rfl rfl rfl rfl rfl rfl rfl rfl fun _ => id⟩
    · exact ⟨desks'.of_same rfl (fun _ => rfl) rfl, ring.dropTail sent unqueued idle⟩
    · exact ⟨traffic.desksGood desks', traffic.ringGood ring⟩
  exact both.2

/-- Every move keeps the ring's agreement. -/
theorem Move.ringGood {c : Cause} {s t : State} (move : Move c s t) (desks : s.DesksGood) (good : s.RingGood) : t.RingGood := by
  cases move with
  | traffic traffic => exact traffic.ringGood good
  | heard =>
    refine good.of_same ?_ ?_ ?_ ?_ ?_ ?_ ?_ ?_ ?_ ?_ ?_ (s.deskHeard_joined _)
    all_goals rw [State.deskHeard_eq]
  | scan => exact State.scan_ringGood desks good
  | night run change joined => exact good.modifyNight joined
  | requeue run waking below =>
    have queued := good.modifyNight (f := fun n => { n with state := .queued, timer := none })
      fun joined => nomatch waking.symm.trans joined
    exact queued.of_same rfl rfl rfl rfl rfl rfl rfl rfl rfl rfl rfl fun _ => id
  | @leave _ _ _ _ d f run change =>
    exact good.without d rfl (fun i => vector_ofFn_get _ i) rfl rfl rfl rfl rfl rfl rfl rfl rfl
      fun _ => s.modifyNight_elsewhere f
  | acknowledge =>
    refine good.kept_run rfl (fun i => ?_) rfl rfl rfl rfl rfl rfl rfl rfl rfl fun _ _ _ joined => ?_
    · rw [vector_ofFn_get]
      exact .acknowledged ..
    · rw [State.isJoined]
      exact joined
  | dropTail sent unqueued idle => exact good.dropTail sent unqueued idle
  | lag _ i =>
    refine good.of_same ?_ ?_ ?_ ?_ ?_ ?_ ?_ ?_ ?_ ?_ ?_ fun d before => ?_
    case refine_12 =>
      rw [State.isJoined, State.mapNight_desk]
      dsimp only
      split <;> exact before
    all_goals rw [State.mapNight]
  | requestRepair sent absent room => exact good.requestRepair sent absent
  | repairsLeft left => exact good.repairsLeft left
  | startRepair run link queue => exact good.startRepair (by rw [run]; rfl) link queue _
  | transmit active link cut left =>
    refine good.transmit active link ?_ left
    rcases cut with uncut | ⟨y, present, same⟩
    · exact uncut
    · rw [← same, (good.cut y present).1, active, link]; rfl
  | endTransmission => exact good.endTransmission
  | send active ready fresh => exact good.send ready fresh
  | wanted =>
    rw [State.insertWanted_eq]
    exact good.of_same rfl rfl rfl rfl rfl rfl rfl rfl rfl rfl rfl fun _ => id
  | roomDown => exact good.roomDown
  | roomUp => exact good.roomUp
  | queueDesks progress first last =>
    refine good.of_same ?_ ?_ ?_ ?_ ?_ ?_ ?_ ?_ ?_ ?_ ?_ (State.queueDesks_joined fun d mem joined => ?_)
    case refine_12 => rcases State.enqueueDesks_rest mem with rest | rest <;> cases joined.symm.trans rest
    all_goals rw [State.queueDesks_eq]
  | discard => exact good.discard rfl (fun i => vector_ofFn_get _ i) rfl rfl rfl rfl rfl rfl rfl rfl rfl rfl
  | openSlot run room unfilled length pass sequence => exact good.openSlot run room unfilled length pass.1 sequence
  | mark filling lacks => exact good.mark filling lacks
  | blockReady filling => exact good.blockReady filling
  | blockFailed filling => exact good.blockFailed filling
  | flush => exact good.flush
  | close run cause => exact good.closeRun _ _ cause
  | deskWrite =>
    refine good.of_same rfl rfl rfl rfl rfl rfl rfl rfl rfl rfl rfl fun e before => ?_
    simp only [State.isJoined, vector_set_get]
    split
    · next same => subst same; exact before
    · exact before
  | beginRun run range owner => exact good.beginRun run owner _
  | pauseRun run => exact good.pauseRun run
  | resumeRun run => exact good.resumeRun run
  | releaseReport run => exact good.releaseReport run
  | engineReset => exact engineCleared_ringGood s
  | fullReset => exact .of_empty nofun rfl rfl rfl (Nat.zero_le _) nofun
  | powerOn => exact .of_empty nofun rfl rfl rfl (Nat.zero_le _) nofun
  | _ => exact good.of_same rfl rfl rfl rfl rfl rfl rfl rfl rfl rfl rfl fun _ => id

/-! ## Every step -/

/-- The two agreements, which every move keeps together. -/
theorem step_agrees {s t : State} (desks : s.DesksGood) (ring : s.RingGood) (next : step s = .next t) : t.DesksGood ∧ t.RingGood :=
  step_keeps (P := fun u => u.DesksGood ∧ u.RingGood)
    (fun _ _ _ move ⟨desks, ring⟩ => ⟨move.desksGood desks ring.pendingJoined, move.ringGood desks ring⟩) ⟨desks, ring⟩ next

/-- Settles O58: every move keeps the agreement of the run, the desks and the Wake Queue, and the quiet of the Control Queue. -/
theorem desksStayGood : Obligations.DesksStayGood := fun _ _ desks ring next =>
  ⟨(step_agrees desks ring next).1, fun quiet => step_keeps (fun _ _ _ move => move.controlQuiet) quiet next⟩

/-- Settles O59: every move keeps the ring's agreement, with that of the desks. -/
theorem ringStaysGood : Obligations.RingStaysGood := fun _ _ desks ring next => (step_agrees desks ring next).2

end Sys2Proof.Machine
end
